-- ==== Sys2Proof/Word.lean ====
section
/-! DEFINITION. The widths of the CPC codec block (spec/00_scope.md R11, R18): every value is an unsigned bit vector, bit 0 least significant. -/

namespace Sys2Proof

/-- One byte: a lane, a wire byte, a character code, a response. -/
abbrev Byte := BitVec 8

/-- A 16-bit value: an operation word, the CRC, the channel index, a byte count. -/
abbrev Half := BitVec 16

/-- A 32-bit value: a frequency, a DMR radio identifier, the scanner's window. -/
abbrev Word := BitVec 32

/-- A 9-bit buffer length (`RXLEN`, `TXLEN`). -/
abbrev Len := BitVec 9

/-- A 12-bit lane address (spec/20_memory.md R60). -/
abbrev LaneAddr := BitVec 12

end Sys2Proof
end

