-- ==== Sys2Proof/Config.lean ====
section
/-! DEFINITION. What an instance of the block fixes for its whole life (spec/00_scope.md section 4), and the model's one free value. The four OPEN parameters are data (`Params`); the instance behind `State.reset` is an opaque choice, so no proof can see it. -/

namespace Sys2Proof

/-- The eleven names of the mode enumeration (spec/43_record.md R155). -/
inductive Mode where
  | usb | lsb | cwr | cwl | am | wfm | nfm | digi | pkt | dmr | unused
deriving DecidableEq, Repr

/-- `MODE_CODE`: the byte of each mode name (R155); OPEN, required only to be injective. -/
structure ModeCodes where
  usb    : Byte
  lsb    : Byte
  cwr    : Byte
  cwl    : Byte
  am     : Byte
  wfm    : Byte
  nfm    : Byte
  digi   : Byte
  pkt    : Byte
  dmr    : Byte
  unused : Byte
deriving DecidableEq, Repr, Inhabited

/-- `MODE_CODE(m)`. -/
def ModeCodes.code (c : ModeCodes) : Mode → Byte
  | .usb => c.usb
  | .lsb => c.lsb
  | .cwr => c.cwr
  | .cwl => c.cwl
  | .am => c.am
  | .wfm => c.wfm
  | .nfm => c.nfm
  | .digi => c.digi
  | .pkt => c.pkt
  | .dmr => c.dmr
  | .unused => c.unused

/-- The eleven codes in the document's listing order. -/
def ModeCodes.toList (c : ModeCodes) : List Byte :=
  [c.usb, c.lsb, c.cwr, c.cwl, c.am, c.wfm, c.nfm, c.digi, c.pkt, c.dmr, c.unused]

/-- The block's parameters that the spec leaves open or supplies only as a default
(spec/00_scope.md section 4, spec/92_eei_decisions.md D16, D17, D22). -/
structure Params where
  /-- `MAX_SCAN`, 4..65535 (R10). -/
  maxScan : Half
  /-- `SUBST`, below 0x80 (D16). -/
  subst   : Byte
  /-- `MODE_CODE` (D17). -/
  modes   : ModeCodes
deriving DecidableEq, Repr, Inhabited

/-- `MODE_DMR = MODE_CODE(DMR)`. -/
abbrev Params.modeDmr (p : Params) : Byte := p.modes.dmr

/-- `MODE_UNUSED = MODE_CODE(UNUSED)`. -/
abbrev Params.modeUnused (p : Params) : Byte := p.modes.unused

/-- The ranges the spec gives its parameters: `MAX_SCAN` in 4..65535, `SUBST < 0x80`, `MODE_CODE` injective. -/
abbrev Params.Valid (p : Params) : Prop :=
  4 ≤ p.maxScan.toNat ∧ p.subst.toNat < 0x80 ∧ p.modes.toList.Nodup

/-- The suggested mode table of R157 with `SUBST = 0x3F` (D16) and the least `MAX_SCAN`. -/
def Config.suggested : Params where
  maxScan := 4
  subst := 0x3F
  modes :=
    { usb := 0, lsb := 1, cwr := 2, cwl := 3, am := 4, wfm := 5, nfm := 6, digi := 7, pkt := 8, dmr := 9, unused := 255 }

/-- The instance's own choice of the parameters: nothing in Lean can see it (log entry 1). -/
opaque Config.chosen : Params

/-- The parameters of the instance that comes out of reset: the opaque choice, held to the ranges of the spec. -/
def Config.params : Params :=
  if Config.chosen.Valid then Config.chosen else Config.suggested

/-- FREE VALUE (log entry 4): what `RXLEN + 1` leaves in the 9-bit `RXLEN` when it held 511 (R13, R201). -/
opaque Config.rxLenPastEnd : Nat → Len

end Sys2Proof
end

