-- ==== Sys2Proof/Syntax.lean ====
section
/-! DEFINITION. The instructions of spec/opcode_table.json, one constructor per row: the fifteen operations (spec/30_encoding.md R82), the illegal word (R104) and the eleven wire command codes (R89, spec/45_wire_commands.md). And what can be presented to the block from outside. -/

namespace Sys2Proof

/-- One row of the opcode table each. -/
inductive Instr where
  /-- `NOP` (R110). -/
  | nop
  /-- `SEL a` (R111). -/
  | sel (a : LaneAddr)
  /-- `WRB b` (R112). -/
  | wrb (b : Byte)
  /-- `RDB` (R113). -/
  | rdb
  /-- `CRC.INIT` (R124). -/
  | crcInit
  /-- `CRC.UPD b` (R125). -/
  | crcUpd (b : Byte)
  /-- `FRM.BUILD c` (R136). -/
  | frmBuild (c : Byte)
  /-- `FRM.PARSE` (R142). -/
  | frmParse
  /-- `CH.PACK` (R160). -/
  | chPack
  /-- `CH.UNPACK` (R164). -/
  | chUnpack
  /-- `DMR.PACK` (R170). -/
  | dmrPack
  /-- `DMR.UNPACK` (R172). -/
  | dmrUnpack
  /-- `RSY.START` (R195). -/
  | rsyStart
  /-- `RSY.BYTE b` (R196). -/
  | rsyByte (b : Byte)
  /-- `RSY.TMO` (R205). -/
  | rsyTmo
  /-- An illegal operation word, with the word itself (R104). -/
  | illegal (w : Half)
  /-- Wire command 0x07, PTT control (R224). -/
  | cmd07
  /-- Wire command 0x0A, mode setting (R225). -/
  | cmd0A
  /-- Wire command 0x0B, status sync (R226). -/
  | cmd0B
  /-- Wire command 0x27, equipment type (R227). -/
  | cmd27
  /-- Wire command 0x28, power class (R228). -/
  | cmd28
  /-- Wire command 0x29, RIT (R229). -/
  | cmd29
  /-- Wire command 0x39, spectrum data (R230). -/
  | cmd39
  /-- Wire command 0x40, channel write (R220). -/
  | cmd40
  /-- Wire command 0x41, channel read (R221). -/
  | cmd41
  /-- Wire command 0x43, DMR data write (R222). -/
  | cmd43
  /-- Wire command 0x44, DMR data read (R223). -/
  | cmd44
deriving DecidableEq, Repr

/-- What the opcode table encodes, in its two spaces: a 16-bit operation word (R80), or an 8-bit wire command code
(R89; that a code can be presented by itself is the model's choice, log entry 2). -/
inductive PortItem where
  | word (w : Half)
  | wire (c : Byte)
deriving DecidableEq, Repr

/-- What the environment does to the block, in the one total order in which it happens (R20, R71): it presents an item
at the operation port, or it resets the block (R48: an event of the environment, no operation word). -/
inductive Input where
  | present (p : PortItem)
  | resetEvent
deriving DecidableEq, Repr

/-- The keys of the external flat mapping that name one byte each (R180). -/
inductive FlatKey where
  | channelLow | channelHigh
  | vfoaMode | vfobMode
  | vfoaFrequency1 | vfoaFrequency2 | vfoaFrequency3 | vfoaFrequency4
  | vfobFrequency1 | vfobFrequency2 | vfobFrequency3 | vfobFrequency4
  | receiveYayin | emitYayin
  | rxCc | txCc | slot | callFormat
  | callId1 | callId2 | callId3 | callId4
  | ownId1 | ownId2 | ownId3 | ownId4
deriving DecidableEq, Repr

end Sys2Proof
end

