-- ==== Sys2Proof/WellFormed.lean ====
section
/-! DEFINITION. Which terms of `Instr` some encoding gives. Every operand of a legal operation is bounded by its type (R81: every lane address and every byte is legal), so the one check is that the word an `illegal` carries is an illegal word (R104). -/

namespace Sys2Proof

/-- R104: `OPC == 0xF`; or a shape `N` operation with `ARG ≠ 0`; or a shape `B` operation with `ARG[11:8] ≠ 0`.
The shapes are those of the operation map R82. -/
def illegalWord (w : Half) : Bool :=
  let opc := (w.extractLsb' 12 4).toNat
  let shapeA := opc == 1
  let shapeB := opc == 2 || opc == 5 || opc == 6 || opc == 13
  let shapeN := opc != 15 && !shapeA && !shapeB
  opc == 15 || (shapeN && w.extractLsb' 0 12 != 0) || (shapeB && w.extractLsb' 8 4 != 0)

/-- The instruction is the decoding of some port item. -/
def Instr.wellFormed : Instr → Bool
  | .illegal w => illegalWord w
  | .nop | .sel _ | .wrb _ | .rdb | .crcInit | .crcUpd _ | .frmBuild _ | .frmParse
  | .chPack | .chUnpack | .dmrPack | .dmrUnpack | .rsyStart | .rsyByte _ | .rsyTmo
  | .cmd07 | .cmd0A | .cmd0B | .cmd27 | .cmd28 | .cmd29 | .cmd39 | .cmd40 | .cmd41 | .cmd43 | .cmd44 => true

end Sys2Proof
end

