-- ==== Sys2Proof/Decode.lean ====
section
/-! DEFINITION. Decoding, total on every operation word and every wire command byte, and the encoder (spec/30_encoding.md R80 to R82, R89, R104). -/

namespace Sys2Proof

/-- `OPC = w[15:12]` (R80). -/
def opcOf (w : Half) : Nat := (w.extractLsb' 12 4).toNat

/-- `ARG = w[11:0]` (R80). -/
def argOf (w : Half) : LaneAddr := w.extractLsb' 0 12

/-- `ARG[7:0]`, the byte operand of shape `B` (R81). -/
def argByte (w : Half) : Byte := w.extractLsb' 0 8

/-- `ARG[11:8]`, which shape `B` wants zero (R81). -/
def argHigh (w : Half) : BitVec 4 := w.extractLsb' 8 4

/-- Shape `N`: no operand, `ARG` must be 0x000, else the word is illegal (R81, R104). -/
def shapeN (w : Half) (i : Instr) : Instr :=
  if argOf w = 0 then i else .illegal w

/-- Shape `B`: a byte operand, `ARG[11:8]` must be 0, else the word is illegal (R81, R104). -/
def shapeB (w : Half) (f : Byte → Instr) : Instr :=
  if argHigh w = 0 then f (argByte w) else .illegal w

/-- The operation map R82; `OPC = 0xF` is reserved and illegal (R104). -/
def decodeWord (w : Half) : Instr :=
  match opcOf w with
  | 0x0 => shapeN w .nop
  | 0x1 => .sel (argOf w)
  | 0x2 => shapeB w .wrb
  | 0x3 => shapeN w .rdb
  | 0x4 => shapeN w .crcInit
  | 0x5 => shapeB w .crcUpd
  | 0x6 => shapeB w .frmBuild
  | 0x7 => shapeN w .frmParse
  | 0x8 => shapeN w .chPack
  | 0x9 => shapeN w .chUnpack
  | 0xA => shapeN w .dmrPack
  | 0xB => shapeN w .dmrUnpack
  | 0xC => shapeN w .rsyStart
  | 0xD => shapeB w .rsyByte
  | 0xE => shapeN w .rsyTmo
  | _ => .illegal w

/-- The eleven named wire command codes (R89). The other 245 codes have no name and are treated as the named ones are,
`FRM.BUILD` accepting them (R231): such a code is the frame build with that command byte. -/
def decodeWire (c : Byte) : Instr :=
  match c.toNat with
  | 0x07 => .cmd07
  | 0x0A => .cmd0A
  | 0x0B => .cmd0B
  | 0x27 => .cmd27
  | 0x28 => .cmd28
  | 0x29 => .cmd29
  | 0x39 => .cmd39
  | 0x40 => .cmd40
  | 0x41 => .cmd41
  | 0x43 => .cmd43
  | 0x44 => .cmd44
  | _ => .frmBuild c

/-- The instruction a presented item stands for. -/
def decode : PortItem → Instr
  | .word w => decodeWord w
  | .wire c => decodeWire c

/-- The word of a shape `N` operation. -/
def wordN (opc : BitVec 4) : PortItem := .word (opc ++ (0 : BitVec 12))

/-- The word of a shape `B` operation. -/
def wordB (opc : BitVec 4) (b : Byte) : PortItem := .word (opc ++ ((0 : BitVec 4) ++ b))

/-- The encoding of an instruction (R82, R89). -/
def encode : Instr → PortItem
  | .nop => wordN 0x0
  | .sel a => .word ((0x1 : BitVec 4) ++ a)
  | .wrb b => wordB 0x2 b
  | .rdb => wordN 0x3
  | .crcInit => wordN 0x4
  | .crcUpd b => wordB 0x5 b
  | .frmBuild c => wordB 0x6 c
  | .frmParse => wordN 0x7
  | .chPack => wordN 0x8
  | .chUnpack => wordN 0x9
  | .dmrPack => wordN 0xA
  | .dmrUnpack => wordN 0xB
  | .rsyStart => wordN 0xC
  | .rsyByte b => wordB 0xD b
  | .rsyTmo => wordN 0xE
  | .illegal w => .word w
  | .cmd07 => .wire 0x07
  | .cmd0A => .wire 0x0A
  | .cmd0B => .wire 0x0B
  | .cmd27 => .wire 0x27
  | .cmd28 => .wire 0x28
  | .cmd29 => .wire 0x29
  | .cmd39 => .wire 0x39
  | .cmd40 => .wire 0x40
  | .cmd41 => .wire 0x41
  | .cmd43 => .wire 0x43
  | .cmd44 => .wire 0x44

/-- The item whose bits the opcode table numbers `w`: a row of 8 bits is a wire command byte, a row of 16 bits is an
operation word. -/
def itemOfTable (nbits w : Nat) : PortItem :=
  if nbits ≤ 8 then .wire (BitVec.ofNat 8 w) else .word (BitVec.ofNat 16 w)

/-- The instruction the decoder reads from a row of the opcode table. -/
def decodeTableWord (nbits w : Nat) : Option Instr :=
  some (decode (itemOfTable nbits w))

end Sys2Proof
end

