-- ==== Sys2Proof/Machine/State.lean ====
section
/-! DEFINITION. The state of the CPC codec block (spec/10_state.md), its reset value (R48) and the reasons a step could stop (there are none: the block never traps, spec/60_exceptions.md R250). -/

namespace Sys2Proof.Machine

/-- `RSTATE`, the state of the resynchronizer (R36). Codes 5 to 7 never occur. -/
inductive RState where
  | idle | hunt | len | body | done
deriving DecidableEq, Repr

/-- The result codes of `ERR` (R241). `communication` and `connection` are in the numbering and never raised. -/
inductive ResultCode where
  | ok | timeout | crcMismatch | communication | connection | malformedFrame | recLen | tooLong
deriving DecidableEq, Repr

/-- No step of the block faults: nothing in the block traps (R13, R250), every operation is defined in every state
(R267), and no lane access faults (R66, R67). -/
inductive Fault where
deriving DecidableEq, Repr

/-- The reasons a step has no meaning. -/
inductive Refusal where
  /-- An instruction whose meaning is not written; raised by no arm of this model. Safe: a refused step proves nothing. -/
  | notModelled (mnemonic : String)
deriving DecidableEq, Repr

/-- The state of the block. The first four fields are the MODEL's own (log entries 1, 3, 4, 5); the others are the
registers, flags and buffers of spec/10_state.md under its names. -/
structure State where
  /-- The instance's parameters (R21); no step changes them (log entry 1). -/
  params  : Params
  /-- What the environment does to the block from here on, first to last (R20, R71; log entry 3). -/
  inputs  : List Input
  /-- `resp`, the response the last operation returned (R83; log entry 5). -/
  resp    : Byte
  /-- How many free values have been drawn (log entry 4). -/
  freeCtr : Nat
  /-- `IDX` (R22). -/
  idx     : Half
  /-- `RXMODE` (R22). -/
  rxMode  : Byte
  /-- `TXMODE` (R22). -/
  txMode  : Byte
  /-- `RXFREQ` (R22). -/
  rxFreq  : Word
  /-- `TXFREQ` (R22). -/
  txFreq  : Word
  /-- `RXTONE` (R22). -/
  rxTone  : Byte
  /-- `TXTONE` (R22). -/
  txTone  : Byte
  /-- `NAMELEN` (R25). -/
  nameLen : Byte
  /-- `RXCC` (R22). -/
  rxCc    : Byte
  /-- `TXCC` (R22). -/
  txCc    : Byte
  /-- `SLOT` (R22). -/
  slot    : Byte
  /-- `CALLID` (R22). -/
  callId  : Word
  /-- `OWNID` (R22). -/
  ownId   : Word
  /-- `CALLFMT` (R22). -/
  callFmt : Byte
  /-- `CRC`, the working register of the CRC generator (R27). -/
  crc     : Half
  /-- `PTR`, the lane pointer (R29). -/
  ptr     : LaneAddr
  /-- `DOUT` (R30). -/
  dout    : Byte
  /-- `STAT.CRCOK` (R32). -/
  crcOk   : Bool
  /-- `STAT.ILL`, sticky (R35). -/
  ill     : Bool
  /-- `STAT.NOTERM` (R35). -/
  noTerm  : Bool
  /-- `RSTATE` (R36). -/
  rstate  : RState
  /-- `WIN`, the sliding window (R37). -/
  win     : Word
  /-- `SCANCNT` (R38). -/
  scanCnt : Half
  /-- `SKIP` (R38). -/
  skip    : Half
  /-- `LENR` (R39). -/
  lenR    : Byte
  /-- `BODYCNT` (R39). -/
  bodyCnt : Byte
  /-- `RXLEN` (R40). -/
  rxLen   : Len
  /-- `TXLEN` (R40). -/
  txLen   : Len
  /-- `CMDR` (R41). -/
  cmdR    : Byte
  /-- `PLEN` (R41). -/
  pLen    : Byte
  /-- `ERR` (R42). -/
  err     : ResultCode
  /-- The byte arrays `NAMECH[0..31]`, `PBUF[0..251]`, `TXBUF[0..259]` and `RXBUF[0..511]` (R25, R44, R45, R46), each
  byte under its lane address (R61): the listed bytes in rising order, an unlisted lane holding 0x00 (R48). -/
  mem     : List Host.Cell
deriving DecidableEq, Repr

/-- The block right after reset (R48), with the instance's parameters and nothing presented yet. -/
def State.reset : State where
  params := Config.params
  inputs := []
  resp := 0
  freeCtr := 0
  idx := 0
  rxMode := 0
  txMode := 0
  rxFreq := 0
  txFreq := 0
  rxTone := 0
  txTone := 0
  nameLen := 0
  rxCc := 0
  txCc := 0
  slot := 0
  callId := 0
  ownId := 0
  callFmt := 0
  crc := 0xFFFF
  ptr := 0
  dout := 0
  crcOk := false
  ill := false
  noTerm := false
  rstate := .idle
  win := 0
  scanCnt := 0
  skip := 0
  lenR := 0
  bodyCnt := 0
  rxLen := 0
  txLen := 0
  cmdR := 0
  pLen := 0
  err := .ok
  mem := []

end Sys2Proof.Machine
end

