-- ==== Sys2Proof/Machine/Operands.lean ====
section
/-! DEFINITION. What operations read and write by name: byte slices of wide registers (spec/00_scope.md R11, R12), the byte memory behind the buffers, and the lanes of the lane space with their addresses (spec/20_memory.md R60, R61). -/

namespace Sys2Proof.Machine

/-! ## Bytes of a wide register, most significant first (R12, R68) -/

/-- `v[15:8]`. -/
def hi16 (v : Half) : Byte := v.extractLsb' 8 8

/-- `v[7:0]`. -/
def lo16 (v : Half) : Byte := v.extractLsb' 0 8

/-- `{hi, lo}`. -/
def join16 (hi lo : Byte) : Half := hi ++ lo

/-- Byte `k` of a 32-bit register, byte 3 the most significant: `v[8k+7:8k]`. -/
def byte32 (v : Word) (k : Nat) : Byte := v.extractLsb' (8 * k) 8

/-- `{b3, b2, b1, b0}`. -/
def join32 (b3 b2 b1 b0 : Byte) : Word := b3 ++ (b2 ++ (b1 ++ b0))

/-- A u16 as its two bytes in wire order (R12). -/
def be16 (v : Half) : List Byte := [hi16 v, lo16 v]

/-- A u32 as its four bytes in wire order (R12). -/
def be32 (v : Word) : List Byte := [byte32 v 3, byte32 v 2, byte32 v 1, byte32 v 0]

/-- `v` with byte 3, 2, 1 or 0 replaced by `b`; any other `k` leaves it. -/
def setByte32 (v : Word) (k : Nat) (b : Byte) : Word :=
  match k with
  | 3 => join32 b (byte32 v 2) (byte32 v 1) (byte32 v 0)
  | 2 => join32 (byte32 v 3) b (byte32 v 1) (byte32 v 0)
  | 1 => join32 (byte32 v 3) (byte32 v 2) b (byte32 v 0)
  | 0 => join32 (byte32 v 3) (byte32 v 2) (byte32 v 1) b
  | _ => v

/-- `v` with its high byte replaced. -/
def setHi16 (v : Half) (b : Byte) : Half := join16 b (lo16 v)

/-- `v` with its low byte replaced. -/
def setLo16 (v : Half) (b : Byte) : Half := join16 (hi16 v) b

/-! ## The byte memory -/

/-- What an unlisted address reads as: the reset contents of every buffer (R48). -/
def memDefault : Byte := 0

/-- The byte at an address. -/
def memRead : List Host.Cell → Nat → Byte
  | [], _ => memDefault
  | (b, v) :: m, a => if b = a then v else memRead m a

/-- The memory with no entry for `a`. -/
def memErase : List Host.Cell → Nat → List Host.Cell
  | [], _ => []
  | (b, v) :: m, a => if b = a then memErase m a else (b, v) :: memErase m a

/-- The memory with `(a, v)` entered before the first higher address. -/
def memInsert : List Host.Cell → Nat → Byte → List Host.Cell
  | [], a, v => [(a, v)]
  | (b, w) :: m, a, v => if a < b then (a, v) :: (b, w) :: m else (b, w) :: memInsert m a v

/-- One byte stored; a byte equal to what an unlisted address reads as is not listed. -/
def memWrite (m : List Host.Cell) (a : Nat) (v : Byte) : List Host.Cell :=
  if v = memDefault then memErase m a else memInsert (memErase m a) a v

/-- Bytes stored at rising addresses from `a`. -/
def memWriteBytes (m : List Host.Cell) (a : Nat) : List Byte → List Host.Cell
  | [] => m
  | v :: vs => memWriteBytes (memWrite m a v) (a + 1) vs

/-- The `n` bytes from address `a` on. -/
def memReadBytes (m : List Host.Cell) (a : Nat) : Nat → List Byte
  | 0 => []
  | n + 1 => memRead m a :: memReadBytes m (a + 1) n

/-- The canonical form from address `lo` on: addresses strictly rising, no listed byte equal to `memDefault`. -/
def memWfFrom : Nat → List Host.Cell → Bool
  | _, [] => true
  | lo, (a, v) :: m => lo ≤ a && v != memDefault && memWfFrom (a + 1) m

/-- The canonical form of a memory: two memories of this form that read the same everywhere are the same list. -/
def Memory.wf (m : List Host.Cell) : Bool := memWfFrom 0 m

/-! ## Where the buffers lie in the lane space (R61) -/

/-- Lane of `NAMECH[0]`. -/
def namechBase : Nat := 0x020

/-- Lane of `PBUF[0]`. -/
def pbufBase : Nat := 0x100

/-- Lane of `TXBUF[0]`. -/
def txbufBase : Nat := 0x200

/-- Lane of `RXBUF[0]`. -/
def rxbufBase : Nat := 0x400

/-- `NAMECH` has `NAME_IN_CAP` = 32 entries (R25). -/
def namechSize : Nat := 32

/-- `PBUF` has 252 bytes (R44). -/
def pbufSize : Nat := 252

/-- `TXBUF` has 260 bytes (R45). -/
def txbufSize : Nat := 260

/-- `RXBUF` has 512 bytes (R46). -/
def rxbufSize : Nat := 512

/-- The address is a lane of one of the four byte arrays. -/
def bufferLane (a : Nat) : Bool :=
  (namechBase ≤ a && a < namechBase + namechSize) || (pbufBase ≤ a && a < pbufBase + pbufSize) ||
    (txbufBase ≤ a && a < txbufBase + txbufSize) || (rxbufBase ≤ a && a < rxbufBase + rxbufSize)

/-- `NAMECH[i]`. -/
def State.namech (s : State) (i : Nat) : Byte := memRead s.mem (namechBase + i)

/-- `PBUF[i]`. -/
def State.pbuf (s : State) (i : Nat) : Byte := memRead s.mem (pbufBase + i)

/-- `TXBUF[i]`. -/
def State.txbuf (s : State) (i : Nat) : Byte := memRead s.mem (txbufBase + i)

/-- `RXBUF[i]`. -/
def State.rxbuf (s : State) (i : Nat) : Byte := memRead s.mem (rxbufBase + i)

/-- `PBUF[0..n-1]`. -/
def State.pbufBytes (s : State) (n : Nat) : List Byte := memReadBytes s.mem pbufBase n

/-- `TXBUF[0..n-1]`. -/
def State.txbufBytes (s : State) (n : Nat) : List Byte := memReadBytes s.mem txbufBase n

/-- `RXBUF[0..n-1]`. -/
def State.rxbufBytes (s : State) (n : Nat) : List Byte := memReadBytes s.mem rxbufBase n

/-! ## The lanes (R61) -/

/-- The lanes by name; `namech`, `pbuf`, `txbuf`, `rxbuf` carry the index within the array. -/
inductive Lane where
  | idxh | idxl | rxmode | txmode
  | rxfreq1 | rxfreq2 | rxfreq3 | rxfreq4
  | txfreq1 | txfreq2 | txfreq3 | txfreq4
  | rxtone | txtone | rxcc | txcc | slot | callfmt
  | callid1 | callid2 | callid3 | callid4
  | ownid1 | ownid2 | ownid3 | ownid4
  | namelen
  | namech (i : Nat)
  | stat | err | crch | crcl | cmdr | plen | txlenh | txlenl | rxlenh | rxlenl
  | rstate | lenr | bodycnt | scanh | scanl | skiph | skipl
  | win3 | win2 | win1 | win0 | dout
  | pbuf (i : Nat)
  | txbuf (i : Nat)
  | rxbuf (i : Nat)
  | unmapped
deriving DecidableEq, Repr

/-- The lanes below the buffers, 0x000..0x0FF. -/
def lowLane (a : Nat) : Lane :=
  match a with
  | 0x000 => .idxh
  | 0x001 => .idxl
  | 0x002 => .rxmode
  | 0x003 => .txmode
  | 0x004 => .rxfreq1
  | 0x005 => .rxfreq2
  | 0x006 => .rxfreq3
  | 0x007 => .rxfreq4
  | 0x008 => .txfreq1
  | 0x009 => .txfreq2
  | 0x00A => .txfreq3
  | 0x00B => .txfreq4
  | 0x00C => .rxtone
  | 0x00D => .txtone
  | 0x00E => .rxcc
  | 0x00F => .txcc
  | 0x010 => .slot
  | 0x011 => .callfmt
  | 0x012 => .callid1
  | 0x013 => .callid2
  | 0x014 => .callid3
  | 0x015 => .callid4
  | 0x016 => .ownid1
  | 0x017 => .ownid2
  | 0x018 => .ownid3
  | 0x019 => .ownid4
  | 0x01A => .namelen
  | 0x040 => .stat
  | 0x041 => .err
  | 0x042 => .crch
  | 0x043 => .crcl
  | 0x044 => .cmdr
  | 0x045 => .plen
  | 0x046 => .txlenh
  | 0x047 => .txlenl
  | 0x048 => .rxlenh
  | 0x049 => .rxlenl
  | 0x04A => .rstate
  | 0x04B => .lenr
  | 0x04C => .bodycnt
  | 0x04D => .scanh
  | 0x04E => .scanl
  | 0x04F => .skiph
  | 0x050 => .skipl
  | 0x051 => .win3
  | 0x052 => .win2
  | 0x053 => .win1
  | 0x054 => .win0
  | 0x055 => .dout
  | _ => .unmapped

/-- The lane at an address (R61). -/
def laneAt (addr : LaneAddr) : Lane :=
  let a := addr.toNat
  if namechBase ≤ a ∧ a < namechBase + namechSize then .namech (a - namechBase)
  else if pbufBase ≤ a ∧ a < pbufBase + pbufSize then .pbuf (a - pbufBase)
  else if txbufBase ≤ a ∧ a < txbufBase + txbufSize then .txbuf (a - txbufBase)
  else if rxbufBase ≤ a ∧ a < rxbufBase + rxbufSize then .rxbuf (a - rxbufBase)
  else lowLane a

/-- The lanes the host can write: access "RW" in R61. -/
def Lane.writable : Lane → Bool
  | .idxh | .idxl | .rxmode | .txmode
  | .rxfreq1 | .rxfreq2 | .rxfreq3 | .rxfreq4
  | .txfreq1 | .txfreq2 | .txfreq3 | .txfreq4
  | .rxtone | .txtone | .rxcc | .txcc | .slot | .callfmt
  | .callid1 | .callid2 | .callid3 | .callid4
  | .ownid1 | .ownid2 | .ownid3 | .ownid4
  | .namelen | .namech _ | .cmdr | .plen | .rxlenh | .rxlenl | .pbuf _ | .rxbuf _ => true
  | .stat | .err | .crch | .crcl | .txlenh | .txlenl
  | .rstate | .lenr | .bodycnt | .scanh | .scanl | .skiph | .skipl
  | .win3 | .win2 | .win1 | .win0 | .dout | .txbuf _ | .unmapped => false

/-- The lane each key of the external flat mapping is (R61, R180). -/
def flatLane : FlatKey → LaneAddr
  | .channelHigh => 0x000
  | .channelLow => 0x001
  | .vfoaMode => 0x002
  | .vfobMode => 0x003
  | .vfoaFrequency1 => 0x004
  | .vfoaFrequency2 => 0x005
  | .vfoaFrequency3 => 0x006
  | .vfoaFrequency4 => 0x007
  | .vfobFrequency1 => 0x008
  | .vfobFrequency2 => 0x009
  | .vfobFrequency3 => 0x00A
  | .vfobFrequency4 => 0x00B
  | .receiveYayin => 0x00C
  | .emitYayin => 0x00D
  | .rxCc => 0x00E
  | .txCc => 0x00F
  | .slot => 0x010
  | .callFormat => 0x011
  | .callId1 => 0x012
  | .callId2 => 0x013
  | .callId3 => 0x014
  | .callId4 => 0x015
  | .ownId1 => 0x016
  | .ownId2 => 0x017
  | .ownId3 => 0x018
  | .ownId4 => 0x019

end Sys2Proof.Machine
end

