-- ==== Sys2Proof/Machine/Flags.lean ====
section
/-! DEFINITION. The status lane `STAT`: three stored flags and four derived ones, recomputed at every read (spec/10_state.md R31 to R35), and the numbers of `RSTATE` (R36) and `ERR` (spec/60_exceptions.md R241). -/

namespace Sys2Proof.Machine

/-- `STAT.RXRDY`: `RSTATE` is HUNT, LEN or BODY (R31). -/
def State.rxRdy (s : State) : Bool :=
  match s.rstate with
  | .hunt | .len | .body => true
  | .idle | .done => false

/-- `STAT.DONE` (R31). -/
def State.isDone (s : State) : Bool := s.rstate == .done

/-- `STAT.EMPTY = (RXMODE == MODE_UNUSED) or (RXFREQ == 0)` (R34). -/
def State.isEmpty (s : State) : Bool := s.rxMode == s.params.modeUnused || s.rxFreq == 0

/-- `STAT.ISDMR = (RXMODE == MODE_DMR)` (R33). -/
def State.isDmr (s : State) : Bool := s.rxMode == s.params.modeDmr

/-- One flag at its bit of a status byte. -/
def flagBit (b : Bool) (k : Nat) : Byte := if b then BitVec.ofNat 8 (2 ^ k) else 0

/-- `STAT` (R31): bit 0 `CRCOK`, 1 `RXRDY`, 2 `DONE`, 3 `EMPTY`, 4 `ISDMR`, 5 `ILL`, 6 `NOTERM`, bit 7 reads 0. -/
def State.stat (s : State) : Byte :=
  flagBit s.crcOk 0 ||| flagBit s.rxRdy 1 ||| flagBit s.isDone 2 ||| flagBit s.isEmpty 3 |||
    flagBit s.isDmr 4 ||| flagBit s.ill 5 ||| flagBit s.noTerm 6

/-- The code of a resynchronizer state (R36). -/
def RState.code : RState → Byte
  | .idle => 0
  | .hunt => 1
  | .len => 2
  | .body => 3
  | .done => 4

/-- The code of a result (R241). -/
def ResultCode.code : ResultCode → Byte
  | .ok => 0
  | .timeout => 1
  | .crcMismatch => 2
  | .communication => 3
  | .connection => 4
  | .malformedFrame => 5
  | .recLen => 6
  | .tooLong => 7

end Sys2Proof.Machine
end

