-- ==== Sys2Proof/Machine/Ops.lean ====
section
/-! DEFINITION. The operations the instructions share: the response and the result code (the block's counterpart of taking an exception: `ERR <- code`, nothing more, spec/60_exceptions.md R240, R250, R251), the reset event (R48), and reading and writing a lane (spec/20_memory.md R66, R67). -/

namespace Sys2Proof.Machine

/-- `resp <- v` (R83). -/
def State.respond (v : Byte) (s : State) : State := { s with resp := v }

/-- `result <Code>`: `ERR <- code(<Code>)`, nothing more (R240). There is no trap entry and no return (R250, R251). -/
def State.report (c : ResultCode) (s : State) : State := { s with err := c }

/-- Bytes stored into a buffer at rising lanes from `a`. -/
def State.store (a : Nat) (vs : List Byte) (s : State) : State := { s with mem := memWriteBytes s.mem a vs }

/-- `PTR <- (PTR + 1) mod 4096` (R29). -/
def State.advancePtr (s : State) : State := { s with ptr := s.ptr + 1 }

/-- The reset event (R48, R265): every piece of the block's state to its reset value. The parameters stay (they are
fixed for the life of the instance, R43), and what the environment does afterwards stays the environment's. -/
def State.applyReset (s : State) : State :=
  { State.reset with params := s.params, inputs := s.inputs, freeCtr := s.freeCtr }

/-- `Lane(a)` by name: the "holds" column of R61, computed from the state at the moment of the read (R66). -/
def Lane.get (s : State) : Lane → Byte
  | .idxh => hi16 s.idx
  | .idxl => lo16 s.idx
  | .rxmode => s.rxMode
  | .txmode => s.txMode
  | .rxfreq1 => byte32 s.rxFreq 3
  | .rxfreq2 => byte32 s.rxFreq 2
  | .rxfreq3 => byte32 s.rxFreq 1
  | .rxfreq4 => byte32 s.rxFreq 0
  | .txfreq1 => byte32 s.txFreq 3
  | .txfreq2 => byte32 s.txFreq 2
  | .txfreq3 => byte32 s.txFreq 1
  | .txfreq4 => byte32 s.txFreq 0
  | .rxtone => s.rxTone
  | .txtone => s.txTone
  | .rxcc => s.rxCc
  | .txcc => s.txCc
  | .slot => s.slot
  | .callfmt => s.callFmt
  | .callid1 => byte32 s.callId 3
  | .callid2 => byte32 s.callId 2
  | .callid3 => byte32 s.callId 1
  | .callid4 => byte32 s.callId 0
  | .ownid1 => byte32 s.ownId 3
  | .ownid2 => byte32 s.ownId 2
  | .ownid3 => byte32 s.ownId 1
  | .ownid4 => byte32 s.ownId 0
  | .namelen => s.nameLen
  | .namech i => s.namech i
  | .stat => s.stat
  | .err => s.err.code
  | .crch => hi16 s.crc
  | .crcl => lo16 s.crc
  | .cmdr => s.cmdR
  | .plen => s.pLen
  | .txlenh => (s.txLen.extractLsb' 8 1).setWidth 8
  | .txlenl => s.txLen.extractLsb' 0 8
  | .rxlenh => (s.rxLen.extractLsb' 8 1).setWidth 8
  | .rxlenl => s.rxLen.extractLsb' 0 8
  | .rstate => s.rstate.code
  | .lenr => s.lenR
  | .bodycnt => s.bodyCnt
  | .scanh => hi16 s.scanCnt
  | .scanl => lo16 s.scanCnt
  | .skiph => hi16 s.skip
  | .skipl => lo16 s.skip
  | .win3 => byte32 s.win 3
  | .win2 => byte32 s.win 2
  | .win1 => byte32 s.win 1
  | .win0 => byte32 s.win 0
  | .dout => s.dout
  | .pbuf i => s.pbuf i
  | .txbuf i => s.txbuf i
  | .rxbuf i => s.rxbuf i
  | .unmapped => 0

/-- `LaneWrite(a, v)` by name: an RW lane stores the byte into the bits it holds (`RXLENH` stores bit 0 only); an RO or
unmapped lane is left unchanged and nothing is recorded (R67). -/
def Lane.put (v : Byte) (s : State) : Lane → State
  | .idxh => { s with idx := setHi16 s.idx v }
  | .idxl => { s with idx := setLo16 s.idx v }
  | .rxmode => { s with rxMode := v }
  | .txmode => { s with txMode := v }
  | .rxfreq1 => { s with rxFreq := setByte32 s.rxFreq 3 v }
  | .rxfreq2 => { s with rxFreq := setByte32 s.rxFreq 2 v }
  | .rxfreq3 => { s with rxFreq := setByte32 s.rxFreq 1 v }
  | .rxfreq4 => { s with rxFreq := setByte32 s.rxFreq 0 v }
  | .txfreq1 => { s with txFreq := setByte32 s.txFreq 3 v }
  | .txfreq2 => { s with txFreq := setByte32 s.txFreq 2 v }
  | .txfreq3 => { s with txFreq := setByte32 s.txFreq 1 v }
  | .txfreq4 => { s with txFreq := setByte32 s.txFreq 0 v }
  | .rxtone => { s with rxTone := v }
  | .txtone => { s with txTone := v }
  | .rxcc => { s with rxCc := v }
  | .txcc => { s with txCc := v }
  | .slot => { s with slot := v }
  | .callfmt => { s with callFmt := v }
  | .callid1 => { s with callId := setByte32 s.callId 3 v }
  | .callid2 => { s with callId := setByte32 s.callId 2 v }
  | .callid3 => { s with callId := setByte32 s.callId 1 v }
  | .callid4 => { s with callId := setByte32 s.callId 0 v }
  | .ownid1 => { s with ownId := setByte32 s.ownId 3 v }
  | .ownid2 => { s with ownId := setByte32 s.ownId 2 v }
  | .ownid3 => { s with ownId := setByte32 s.ownId 1 v }
  | .ownid4 => { s with ownId := setByte32 s.ownId 0 v }
  | .namelen => { s with nameLen := v }
  | .namech i => s.store (namechBase + i) [v]
  | .cmdr => { s with cmdR := v }
  | .plen => { s with pLen := v }
  | .rxlenh => { s with rxLen := (v.extractLsb' 0 1) ++ (s.rxLen.extractLsb' 0 8) }
  | .rxlenl => { s with rxLen := (s.rxLen.extractLsb' 8 1) ++ v }
  | .pbuf i => s.store (pbufBase + i) [v]
  | .rxbuf i => s.store (rxbufBase + i) [v]
  | .stat | .err | .crch | .crcl | .txlenh | .txlenl
  | .rstate | .lenr | .bodycnt | .scanh | .scanl | .skiph | .skipl
  | .win3 | .win2 | .win1 | .win0 | .dout | .txbuf _ | .unmapped => s

/-- `Lane(a)` (R66). -/
def laneRead (s : State) (a : LaneAddr) : Byte := (laneAt a).get s

/-- `LaneWrite(a, v)` (R67). -/
def laneWrite (a : LaneAddr) (v : Byte) (s : State) : State := (laneAt a).put v s

/-- The byte a key of the external flat mapping holds (R180). -/
def flatByte (s : State) : FlatKey → Byte
  | .channelLow => s.idx.extractLsb' 0 8
  | .channelHigh => s.idx.extractLsb' 8 8
  | .vfoaMode => s.rxMode
  | .vfobMode => s.txMode
  | .vfoaFrequency1 => s.rxFreq.extractLsb' 24 8
  | .vfoaFrequency2 => s.rxFreq.extractLsb' 16 8
  | .vfoaFrequency3 => s.rxFreq.extractLsb' 8 8
  | .vfoaFrequency4 => s.rxFreq.extractLsb' 0 8
  | .vfobFrequency1 => s.txFreq.extractLsb' 24 8
  | .vfobFrequency2 => s.txFreq.extractLsb' 16 8
  | .vfobFrequency3 => s.txFreq.extractLsb' 8 8
  | .vfobFrequency4 => s.txFreq.extractLsb' 0 8
  | .receiveYayin => s.rxTone
  | .emitYayin => s.txTone
  | .rxCc => s.rxCc
  | .txCc => s.txCc
  | .slot => s.slot
  | .callFormat => s.callFmt
  | .callId1 => s.callId.extractLsb' 24 8
  | .callId2 => s.callId.extractLsb' 16 8
  | .callId3 => s.callId.extractLsb' 8 8
  | .callId4 => s.callId.extractLsb' 0 8
  | .ownId1 => s.ownId.extractLsb' 24 8
  | .ownId2 => s.ownId.extractLsb' 16 8
  | .ownId3 => s.ownId.extractLsb' 8 8
  | .ownId4 => s.ownId.extractLsb' 0 8

/-- What the key `channelName` holds: the name's character codes (R180, R25). -/
def flatName (s : State) : List Byte := memReadBytes s.mem namechBase (min s.nameLen.toNat namechSize)

end Sys2Proof.Machine
end

