-- ==== Sys2Proof/Machine/HostAccess.lean ====
section
/-! DEFINITION. The host access operations and the illegal word (spec/40_host_access.md R110 to R113, spec/30_encoding.md R104). -/

namespace Sys2Proof.Machine

/-- `NOP` (R110): no state written, `resp` 0x00. -/
def execNop (s : State) : Host.Outcome State Fault Refusal :=
  .next (s.respond 0)

/-- `SEL a` (R111). -/
def execSel (a : LaneAddr) (s : State) : Host.Outcome State Fault Refusal :=
  .next ({ s with ptr := a }.respond 0)

/-- `WRB b` (R112): the write, ignored on an RO or unmapped lane; `PTR` advances either way. -/
def execWrb (b : Byte) (s : State) : Host.Outcome State Fault Refusal :=
  .next (((laneWrite s.ptr b s).advancePtr).respond 0)

/-- `RDB` (R113): the byte goes to `DOUT` and to `resp`. -/
def execRdb (s : State) : Host.Outcome State Fault Refusal :=
  let v := laneRead s s.ptr
  .next (({ s with dout := v }.advancePtr).respond v)

/-- An illegal operation word (R104): sets the sticky `STAT.ILL`, `resp` 0x00, nothing else. -/
def execIllegal (s : State) : Host.Outcome State Fault Refusal :=
  .next ({ s with ill := true }.respond 0)

end Sys2Proof.Machine
end

