-- ==== Sys2Proof/Machine/Record.lean ====
section
/-! DEFINITION. The packer and unpacker of the two 26-byte channel records (spec/30_encoding.md R87, R88; spec/43_record.md). -/

namespace Sys2Proof.Machine

/-- `REC_LEN`: both records are 26 bytes (R87, R88). -/
def recLen : Nat := 26

/-- `NAME_FIELD_LEN` (R161). -/
def nameFieldLen : Nat := 12

/-- `NAME_MAX_CHARS` (R161). -/
def nameMaxChars : Nat := 11

/-- A character on its way to the wire: ASCII unchanged, anything else `SUBST` (R161). -/
def wireChar (subst ch : Byte) : Byte := if ch.toNat < 0x80 then ch else subst

/-- How many characters the name field takes: `min(min(NAMELEN, 32), 11)` (R25, R161). -/
def State.nameChars (s : State) : Nat := min (min s.nameLen.toNat namechSize) nameMaxChars

/-- `name_bytes()`: the characters, then NULs to fill 12 (R161). -/
def State.nameBytes (s : State) : List Byte :=
  (memReadBytes s.mem namechBase s.nameChars).map (wireChar s.params.subst) ++
    List.replicate (nameFieldLen - s.nameChars) 0

/-- The basic record of the field registers (R87, R160). -/
def State.basicRecord (s : State) : List Byte :=
  be16 s.idx ++ [s.rxMode, s.txMode] ++ be32 s.rxFreq ++ be32 s.txFreq ++ [s.rxTone, s.txTone] ++ s.nameBytes

/-- The DMR record of the field registers: pad and reserved bytes zero, colour codes masked, fixed trailer (R88, R170). -/
def State.dmrRecord (s : State) : List Byte :=
  be16 s.idx ++ [0, s.rxCc &&& 0x0F, s.txCc &&& 0x0F, s.slot] ++ be32 s.callId ++ be32 s.ownId ++
    [0, 0, 0, 0, 0, s.callFmt] ++ [0, 0, 0, 0, 0, 1]

/-- A record put into `PBUF[0..25]`, `PLEN <- 26`, `result OK` (R160, R170). -/
def State.packRecord (record : List Byte) (s : State) : State :=
  ({ s with mem := memWriteBytes s.mem pbufBase record, pLen := BitVec.ofNat 8 recLen }).report .ok

/-- `CH.PACK` (R160). -/
def execChPack (s : State) : Host.Outcome State Fault Refusal :=
  .next ((s.packRecord s.basicRecord).respond 0)

/-- `DMR.PACK` (R170). -/
def execDmrPack (s : State) : Host.Outcome State Fault Refusal :=
  .next ((s.packRecord s.dmrRecord).respond 0)

/-- The u16 at `PBUF[i..i+1]`. -/
def State.pbuf16 (s : State) (i : Nat) : Half := join16 (s.pbuf i) (s.pbuf (i + 1))

/-- The u32 at `PBUF[i..i+3]`. -/
def State.pbuf32 (s : State) (i : Nat) : Word :=
  join32 (s.pbuf i) (s.pbuf (i + 1)) (s.pbuf (i + 2)) (s.pbuf (i + 3))

/-- The name in the name field: the bytes before the first NUL among the twelve, or all twelve (R165). -/
def State.fieldName (s : State) : List Byte :=
  (memReadBytes s.mem (pbufBase + 14) nameFieldLen).takeWhile (· != 0)

/-- `unpack_name()`: the name copied as it is, the rest of `NAMECH` zeroed (R165). -/
def State.unpackName (s : State) : State :=
  { s with
    mem := memWriteBytes s.mem namechBase (s.fieldName ++ List.replicate (namechSize - s.fieldName.length) 0)
    nameLen := BitVec.ofNat 8 s.fieldName.length
    noTerm := s.fieldName.length == nameFieldLen }

/-- The fixed-width basic-record registers loaded from `PBUF[0..13]` (R164). -/
def State.loadBasic (s : State) : State :=
  { s with
    idx := s.pbuf16 0
    rxMode := s.pbuf 2
    txMode := s.pbuf 3
    rxFreq := s.pbuf32 4
    txFreq := s.pbuf32 8
    rxTone := s.pbuf 12
    txTone := s.pbuf 13 }

/-- The DMR registers loaded from `PBUF[0..25]`; pad, reserved bytes and trailer are not looked at (R172). -/
def State.loadDmr (s : State) : State :=
  { s with
    idx := s.pbuf16 0
    rxCc := s.pbuf 3
    txCc := s.pbuf 4
    slot := s.pbuf 5
    callId := s.pbuf32 6
    ownId := s.pbuf32 10
    callFmt := s.pbuf 19 }

/-- The basic record unpacked: `RecLen` and nothing else unless `PLEN = 26` (R164). -/
def State.unpackBasic (s : State) : State :=
  if s.pLen.toNat ≠ recLen then s.report .recLen else s.loadBasic.unpackName.report .ok

/-- The DMR record unpacked: `RecLen` and nothing else unless `PLEN = 26` (R172). -/
def State.unpackDmr (s : State) : State :=
  if s.pLen.toNat ≠ recLen then s.report .recLen else s.loadDmr.report .ok

/-- `CH.UNPACK` (R164). -/
def execChUnpack (s : State) : Host.Outcome State Fault Refusal :=
  .next (s.unpackBasic.respond 0)

/-- `DMR.UNPACK` (R172). -/
def execDmrUnpack (s : State) : Host.Outcome State Fault Refusal :=
  .next (s.unpackDmr.respond 0)

end Sys2Proof.Machine
end

