-- ==== Sys2Proof/Machine/Crc.lean ====
section
/-! DEFINITION. The CRC-16/CCITT-FALSE generator (spec/41_crc.md). -/

namespace Sys2Proof.Machine

/-- `POLY` (R120). -/
def crcPoly : Half := 0x1021

/-- `CRC_INIT` (R120). -/
def crcInitValue : Half := 0xFFFF

/-- One bit-shift: the top bit is tested before it, the polynomial XORed in after it (R121). -/
def crcShift (c : Half) : Half :=
  if c.getLsbD 15 then (c <<< 1) ^^^ crcPoly else c <<< 1

/-- `n` bit-shifts. -/
def crcShifts : Nat → Half → Half
  | 0, c => c
  | n + 1, c => crcShifts n (crcShift c)

/-- `crc_step(crc, b)`: `b` XORed into bits 15:8, then eight shifts (R121). -/
def crcStep (c : Half) (b : Byte) : Half := crcShifts 8 (c ^^^ join16 b 0)

/-- `crc16` continued from a register value. -/
def crcFrom (c : Half) : List Byte → Half
  | [] => c
  | b :: bs => crcFrom (crcStep c b) bs

/-- `crc16(bytes)`: from 0xFFFF, no final XOR, no reflection (R122). -/
def crc16 (bs : List Byte) : Half := crcFrom crcInitValue bs

/-- One step of the bit-serial form: the next bit of the byte meets the top bit of the register (R123). -/
def crcSerialBit (c : Half) (bit : Bool) : Half :=
  if c.getLsbD 15 ^^ bit then (c <<< 1) ^^^ crcPoly else c <<< 1

/-- The bit-serial form over bits `n-1` down to 0 of the byte (R123). -/
def crcSerial (b : Byte) : Nat → Half → Half
  | 0, c => c
  | n + 1, c => crcSerial b n (crcSerialBit c (b.getLsbD n))

/-- `crc_step_serial(crc, b)` (R123). -/
def crcStepSerial (c : Half) (b : Byte) : Half := crcSerial b 8 c

/-- `CRC.INIT` (R124). -/
def execCrcInit (s : State) : Host.Outcome State Fault Refusal :=
  .next ({ s with crc := crcInitValue }.respond 0)

/-- `CRC.UPD b` (R125). -/
def execCrcUpd (b : Byte) (s : State) : Host.Outcome State Fault Refusal :=
  .next ({ s with crc := crcStep s.crc b }.respond 0)

end Sys2Proof.Machine
end

