-- ==== Sys2Proof/Machine/Frame.lean ====
section
/-! DEFINITION. The frame (spec/30_encoding.md R84), its encoder and parser, and the operations on them (spec/42_frame.md). -/

namespace Sys2Proof.Machine

/-- `MAGIC`: A5 A5 A5 A5 (R84). -/
def magic : List Byte := [0xA5, 0xA5, 0xA5, 0xA5]

/-- `PAYLOAD_MAX` (R9). -/
def payloadMax : Nat := 252

/-- What the CRC covers: `length ‖ command ‖ payload` (R84). -/
def crcCovered (command : Byte) (payload : List Byte) : List Byte :=
  BitVec.ofNat 8 (payload.length + 3) :: command :: payload

/-- `build(command, payload)` for at most 252 payload bytes (R135). -/
def build (command : Byte) (payload : List Byte) : List Byte :=
  magic ++ crcCovered command payload ++ be16 (crc16 (crcCovered command payload))

/-- What `parse` returns (R141). -/
inductive Parsed where
  | malformed
  | frame (command : Byte) (payload : List Byte) (crcValid : Bool)
deriving DecidableEq, Repr

/-- `parse(buf)` (R141). -/
def parse (buf : List Byte) : Parsed :=
  let m := buf.length
  let L := (buf.getD 4 0).toNat
  if m < 8 then .malformed
  else if buf.take 4 ≠ magic then .malformed
  else if L < 3 then .malformed
  else if m - 5 < L then .malformed
  else
    let received := join16 (buf.getD (L + 3) 0) (buf.getD (L + 4) 0)
    let computed := crc16 ((buf.drop 4).take (L - 1))
    .frame (buf.getD 5 0) ((buf.drop 6).take (L - 3)) (received == computed)

/-- What both parsing operations write for a frame: command, payload and its length, the outcome of the CRC comparison
(R142, R203; D13: delivered on a mismatch too). `n` is the number of payload bytes delivered (log entry 8). -/
def State.deliver (command : Byte) (payload : List Byte) (crcValid : Bool) (s : State) : State :=
  { s with mem := memWriteBytes s.mem pbufBase payload, cmdR := command, pLen := BitVec.ofNat 8 payload.length, crcOk := crcValid }

/-- What both parsing operations write for a malformed buffer: `CRCOK <- 0`, `result MalformedFrame` (R142, R203). -/
def State.rejectFrame (s : State) : State := { s with crcOk := false }.report .malformedFrame

/-- The frame built into `TXBUF`, or `TooLong` and nothing else (R136, R137). -/
def State.buildFrame (c : Byte) (s : State) : State :=
  let n := s.pLen.toNat
  if payloadMax < n then s.report .tooLong
  else ({ s with mem := memWriteBytes s.mem txbufBase (build c (s.pbufBytes n)), txLen := BitVec.ofNat 9 (n + 8) }).report .ok

/-- `FRM.BUILD c` (R136, R137). -/
def execFrmBuild (c : Byte) (s : State) : Host.Outcome State Fault Refusal :=
  .next ((s.buildFrame c).respond 0)

/-- `RXBUF[0..RXLEN-1]` parsed and its outcome reported; a CRC mismatch is `OK` with `CRCOK = 0` (R142). -/
def State.parseFrame (s : State) : State :=
  match parse (s.rxbufBytes s.rxLen.toNat) with
  | .malformed => s.rejectFrame
  | .frame c p v => (s.deliver c p v).report .ok

/-- `FRM.PARSE` (R142). -/
def execFrmParse (s : State) : Host.Outcome State Fault Refusal :=
  .next (s.parseFrame.respond 0)

end Sys2Proof.Machine
end

