-- ==== Sys2Proof/Machine/Resync.lean ====
section
/-! DEFINITION. The stream resynchronizer (spec/44_resync.md). -/

namespace Sys2Proof.Machine

/-- The magic as the window holds it (R197). -/
def magicWindow : Word := 0xA5A5A5A5

/-- `{WIN[23:0], b}`: the oldest byte drops out (R197). -/
def shiftWindow (w : Word) (b : Byte) : Word := w.extractLsb' 0 24 ++ b

/-- `scan_exhausted()` (R198). -/
def State.scanExhausted (s : State) : State := { s with rstate := .done, crcOk := false }.report .timeout

/-- What the match writes (R197): the magic into `RXBUF[0..3]`, `RXLEN`, `SKIP`, and LEN. -/
def State.matchFound (s : State) : State :=
  { s with mem := memWriteBytes s.mem rxbufBase magic, rxLen := 4, skip := s.scanCnt - 4, rstate := .len }

/-- A byte taken into the window and counted (R197). -/
def State.slide (b : Byte) (s : State) : State :=
  { s with scanCnt := s.scanCnt + 1, win := shiftWindow s.win b }

/-- What a byte slid into the window brings about; the match is tested before the count (R197). -/
def State.scanned (s : State) : State :=
  if s.win = magicWindow then s.matchFound
  else if s.scanCnt = s.params.maxScan then s.scanExhausted
  else s

/-- `hunt_byte(b)`: the comparisons use the new `WIN` and `SCANCNT` (R197). -/
def State.huntByte (b : Byte) (s : State) : State := (s.slide b).scanned

/-- `complete()` (R203): `FRM.PARSE`, but a CRC mismatch is the result `CrcMismatch`. -/
def State.complete (s : State) : State :=
  match parse (s.rxbufBytes s.rxLen.toNat) with
  | .malformed => { s.rejectFrame with rstate := .done }
  | .frame c p v =>
    { (s.deliver c p v).report (if v then .ok else .crcMismatch) with rstate := .done }

/-- The length byte stored (R200). -/
def State.takeLen (b : Byte) (s : State) : State :=
  { s with mem := memWriteBytes s.mem (rxbufBase + 4) [b], lenR := b, rxLen := 5, bodyCnt := 0 }

/-- The length byte is in: BODY follows. -/
def State.enterBody (s : State) : State := { s with rstate := .body }

/-- `len_byte(b)`: for 0 there are no bytes to read and the receive completes at once (R200). -/
def State.lenByte (b : Byte) (s : State) : State :=
  if b = 0 then (s.takeLen b).complete else (s.takeLen b).enterBody

/-- `RXLEN <- RXLEN + 1` (R201). When a host write has put `RXLEN` at 511 the sum does not fit and the spec states no
result: a free value (log entry 4). -/
def State.growRxLen (s : State) : State :=
  if s.rxLen = 511 then { s with rxLen := Config.rxLenPastEnd s.freeCtr, freeCtr := s.freeCtr + 1 }
  else { s with rxLen := s.rxLen + 1 }

/-- `BODYCNT <- BODYCNT + 1` (R201). -/
def State.countBody (s : State) : State := { s with bodyCnt := s.bodyCnt + 1 }

/-- The byte collected: stored at `RXBUF[5 + BODYCNT]`, both counts raised (R201). -/
def State.collect (b : Byte) (s : State) : State :=
  (s.store (rxbufBase + 5 + s.bodyCnt.toNat) [b]).countBody.growRxLen

/-- `body_byte(b)`: the byte that makes `BODYCNT == LENR` completes the receive (R201). -/
def State.bodyByte (b : Byte) (s : State) : State :=
  if (s.collect b).bodyCnt = (s.collect b).lenR then (s.collect b).complete else s.collect b

/-- A receive armed, from every `RSTATE` (R195). -/
def State.arm (s : State) : State :=
  { s with
    rstate := .hunt, win := 0, scanCnt := 0, skip := 0, lenR := 0, bodyCnt := 0, rxLen := 0, crcOk := false, err := .ok }

/-- A received byte offered; in IDLE and DONE it is not accepted and nothing else changes (R196, R199). -/
def State.takeByte (b : Byte) (s : State) : State :=
  match s.rstate with
  | .idle | .done => s.respond 0
  | .hunt => (s.huntByte b).respond 1
  | .len => (s.lenByte b).respond 1
  | .body => (s.bodyByte b).respond 1

/-- The receive ended by the deadline. -/
def State.expire (s : State) : State := { s with rstate := .done, crcOk := false }.report .timeout

/-- The deadline event; in IDLE and DONE it is not accepted and nothing else changes (R205). -/
def State.deadline (s : State) : State :=
  match s.rstate with
  | .idle | .done => s.respond 0
  | .hunt | .len | .body => s.expire.respond 1

/-- `RSY.START` (R195). -/
def execRsyStart (s : State) : Host.Outcome State Fault Refusal :=
  .next (s.arm.respond 0)

/-- `RSY.BYTE b` (R196). -/
def execRsyByte (b : Byte) (s : State) : Host.Outcome State Fault Refusal :=
  .next (s.takeByte b)

/-- `RSY.TMO` (R205). -/
def execRsyTmo (s : State) : Host.Outcome State Fault Refusal :=
  .next s.deadline

end Sys2Proof.Machine
end

