-- ==== Sys2Proof/Machine/Wire.lean ====
section
/-! DEFINITION. The eleven named wire command codes (spec/45_wire_commands.md R220 to R230, spec/30_encoding.md R89). The block never interprets a command byte: it "builds and parses frames with this command like any other". A wire command presented by itself is a request for its frame: what `FRM.BUILD` does with that command byte (log entry 2); the parsing half is `FRM.PARSE` and the resynchronizer, which deliver every command byte to `CMDR`. -/

namespace Sys2Proof.Machine

/-- A frame with this command byte built from the payload in `PBUF`, as `FRM.BUILD` builds it (R136, R231). -/
def wireCommand (c : Byte) (s : State) : Host.Outcome State Fault Refusal :=
  .next ((s.buildFrame c).respond 0)

/-- 0x07 "PTT control" (R224). -/
def execCmd07 (s : State) : Host.Outcome State Fault Refusal := wireCommand 0x07 s

/-- 0x0A "mode setting" (R225). -/
def execCmd0A (s : State) : Host.Outcome State Fault Refusal := wireCommand 0x0A s

/-- 0x0B "status sync" (R226). -/
def execCmd0B (s : State) : Host.Outcome State Fault Refusal := wireCommand 0x0B s

/-- 0x27 "equipment type" (R227). -/
def execCmd27 (s : State) : Host.Outcome State Fault Refusal := wireCommand 0x27 s

/-- 0x28 "power class" (R228). -/
def execCmd28 (s : State) : Host.Outcome State Fault Refusal := wireCommand 0x28 s

/-- 0x29 "RIT" (R229). -/
def execCmd29 (s : State) : Host.Outcome State Fault Refusal := wireCommand 0x29 s

/-- 0x39 "spectrum data" (R230). -/
def execCmd39 (s : State) : Host.Outcome State Fault Refusal := wireCommand 0x39 s

/-- 0x40 "channel write" (R220). -/
def execCmd40 (s : State) : Host.Outcome State Fault Refusal := wireCommand 0x40 s

/-- 0x41 "channel read" (R221). -/
def execCmd41 (s : State) : Host.Outcome State Fault Refusal := wireCommand 0x41 s

/-- 0x43 "DMR data write" (R222). -/
def execCmd43 (s : State) : Host.Outcome State Fault Refusal := wireCommand 0x43 s

/-- 0x44 "DMR data read" (R223). -/
def execCmd44 (s : State) : Host.Outcome State Fault Refusal := wireCommand 0x44 s

end Sys2Proof.Machine
end

