-- ==== Sys2Proof/Machine/Dispatch.lean ====
section
/-! DEFINITION. The meaning of each instruction: one arm per row of spec/opcode_table.json. -/

namespace Sys2Proof.Machine

def exec (i : Instr) (s : State) : Host.Outcome State Fault Refusal :=
  match i with
  | .nop => Sys2Proof.Machine.execNop s
  | .sel a => Sys2Proof.Machine.execSel a s
  | .wrb b => Sys2Proof.Machine.execWrb b s
  | .rdb => Sys2Proof.Machine.execRdb s
  | .crcInit => Sys2Proof.Machine.execCrcInit s
  | .crcUpd b => Sys2Proof.Machine.execCrcUpd b s
  | .frmBuild c => Sys2Proof.Machine.execFrmBuild c s
  | .frmParse => Sys2Proof.Machine.execFrmParse s
  | .chPack => Sys2Proof.Machine.execChPack s
  | .chUnpack => Sys2Proof.Machine.execChUnpack s
  | .dmrPack => Sys2Proof.Machine.execDmrPack s
  | .dmrUnpack => Sys2Proof.Machine.execDmrUnpack s
  | .rsyStart => Sys2Proof.Machine.execRsyStart s
  | .rsyByte b => Sys2Proof.Machine.execRsyByte b s
  | .rsyTmo => Sys2Proof.Machine.execRsyTmo s
  | .illegal _ => Sys2Proof.Machine.execIllegal s
  | .cmd07 => Sys2Proof.Machine.execCmd07 s
  | .cmd0A => Sys2Proof.Machine.execCmd0A s
  | .cmd0B => Sys2Proof.Machine.execCmd0B s
  | .cmd27 => Sys2Proof.Machine.execCmd27 s
  | .cmd28 => Sys2Proof.Machine.execCmd28 s
  | .cmd29 => Sys2Proof.Machine.execCmd29 s
  | .cmd39 => Sys2Proof.Machine.execCmd39 s
  | .cmd40 => Sys2Proof.Machine.execCmd40 s
  | .cmd41 => Sys2Proof.Machine.execCmd41 s
  | .cmd43 => Sys2Proof.Machine.execCmd43 s
  | .cmd44 => Sys2Proof.Machine.execCmd44 s

end Sys2Proof.Machine
end

