-- ==== Sys2Proof/Machine/Step.lean ====
section
/-! DEFINITION. One step of the block: the next thing the environment does to it (spec/10_state.md R20, spec/20_memory.md R71, spec/60_exceptions.md R259). -/

namespace Sys2Proof.Machine

/-- With nothing presented the block holds its state (R259); a presented item is decoded and performed, atomically
(R14); a reset event resets (R48). -/
def step (s : State) : Host.Outcome State Fault Refusal :=
  match s.inputs with
  | [] => .next s
  | .present p :: rest => exec (decode p) { s with inputs := rest }
  | .resetEvent :: rest => .next { s with inputs := rest }.applyReset

/-- `s` with the instruction of an opcode-table row presented next. -/
def State.withFetchWord (s : State) (nbits w : Nat) : State :=
  { s with inputs := .present (itemOfTable nbits w) :: s.inputs }

end Sys2Proof.Machine
end

