-- ==== Sys2Proof/Machine/Program.lean ====
section
/-! DEFINITION. Sequences of operations as the spec's programs write them: performing a list of instructions in order, the pseudo-operations of spec/30_encoding.md R108, and the written form of an operation (R107). -/

namespace Sys2Proof.Machine

/-- The instructions performed one after the other, stopping at the first that has no next state. -/
def execAll : List Instr → State → Host.Outcome State Fault Refusal
  | [], s => .next s
  | i :: is, s =>
    match exec i s with
    | .next t => execAll is t
    | .fault r => .fault r
    | .refused r => .refused r

/-- `WR lane, b`. -/
def pseudoWr (lane : LaneAddr) (b : Byte) : List Instr := [.sel lane, .wrb b]

/-- `RD lane`. -/
def pseudoRd (lane : LaneAddr) : List Instr := [.sel lane, .rdb]

/-- `WRS lane, b0 ... bk`. -/
def pseudoWrs (lane : LaneAddr) (bs : List Byte) : List Instr := .sel lane :: bs.map .wrb

/-- `CRC.BLOCK b0 ... bk`. -/
def pseudoCrcBlock (bs : List Byte) : List Instr := .crcInit :: bs.map .crcUpd

/-- `LOADP b0 ... bk`, for at most 252 bytes. -/
def pseudoLoadp (bs : List Byte) : List Instr :=
  .sel 0x100 :: bs.map .wrb ++ [.sel 0x045, .wrb (BitVec.ofNat 8 bs.length)]

/-- `FEED b0 ... bk`. -/
def pseudoFeed (bs : List Byte) : List Instr := bs.map .rsyByte

/-- `SETNAME "text"`, the text as its character codes, at most 32. -/
def pseudoSetname (text : List Byte) : List Instr :=
  .sel 0x020 :: text.map .wrb ++ [.sel 0x01A, .wrb (BitVec.ofNat 8 text.length)]

/-- The hex digit of a value below 16, in capitals as R107 writes it. -/
def hexDigit (n : Nat) : Char :=
  if n < 10 then Char.ofNat (48 + n) else Char.ofNat (55 + n)

/-- The lowest `k` hex digits of `n`, most significant first. -/
def hexDigits : Nat → Nat → List Char
  | 0, _ => []
  | k + 1, n => hexDigit (n / 16 ^ k % 16) :: hexDigits k n

/-- The mnemonic of the opcode table. -/
def mnemonic : Instr → String
  | .nop => "NOP"
  | .sel _ => "SEL"
  | .wrb _ => "WRB"
  | .rdb => "RDB"
  | .crcInit => "CRC.INIT"
  | .crcUpd _ => "CRC.UPD"
  | .frmBuild _ => "FRM.BUILD"
  | .frmParse => "FRM.PARSE"
  | .chPack => "CH.PACK"
  | .chUnpack => "CH.UNPACK"
  | .dmrPack => "DMR.PACK"
  | .dmrUnpack => "DMR.UNPACK"
  | .rsyStart => "RSY.START"
  | .rsyByte _ => "RSY.BYTE"
  | .rsyTmo => "RSY.TMO"
  | .illegal _ => "(illegal)"
  | .cmd07 => "CMD_07"
  | .cmd0A => "CMD_0A"
  | .cmd0B => "CMD_0B"
  | .cmd27 => "CMD_27"
  | .cmd28 => "CMD_28"
  | .cmd29 => "CMD_29"
  | .cmd39 => "CMD_39"
  | .cmd40 => "CMD_40"
  | .cmd41 => "CMD_41"
  | .cmd43 => "CMD_43"
  | .cmd44 => "CMD_44"

/-- An operation as R107 writes it: the mnemonic, a space, and a byte operand as `0x` and two hex digits or an address
operand as `0x` and three. -/
def asmLine (i : Instr) : List Char :=
  (mnemonic i).toList ++
    match i with
    | .sel a => [' ', '0', 'x'] ++ hexDigits 3 a.toNat
    | .wrb b | .crcUpd b | .frmBuild b | .rsyByte b => [' ', '0', 'x'] ++ hexDigits 2 b.toNat
    | _ => []

/-- The encoding of a line: the operation word as four hex digits (R107), a wire command byte as two. -/
def asmWord (i : Instr) : List Char :=
  match encode i with
  | .word w => hexDigits 4 w.toNat
  | .wire c => hexDigits 2 c.toNat

/-! ## Reading a line (R107) -/

/-- The value of a hex digit, in capitals. -/
def hexValue (c : Char) : Option Nat :=
  let n := c.toNat
  if 48 ≤ n ∧ n ≤ 57 then some (n - 48) else if 65 ≤ n ∧ n ≤ 70 then some (n - 55) else none

/-- The number that hex digits write, most significant first, above what has been read. -/
def readDigits : List Char → Nat → Option Nat
  | [], v => some v
  | c :: cs, v =>
    match hexValue c with
    | some d => readDigits cs (16 * v + d)
    | none => none

/-- `0x` and exactly `k` hex digits. -/
def readHex (k : Nat) : List Char → Option Nat
  | '0' :: 'x' :: ds => if ds.length = k then readDigits ds 0 else none
  | _ => none

/-- The lanes with a name of their own, or the first lane of a buffer, in the order of R61. -/
def laneNames : List (String × LaneAddr) :=
  [("IDXH", 0x000), ("IDXL", 0x001), ("RXMODE", 0x002), ("TXMODE", 0x003), ("RXFREQ1", 0x004), ("RXFREQ2", 0x005),
    ("RXFREQ3", 0x006), ("RXFREQ4", 0x007), ("TXFREQ1", 0x008), ("TXFREQ2", 0x009), ("TXFREQ3", 0x00A),
    ("TXFREQ4", 0x00B), ("RXTONE", 0x00C), ("TXTONE", 0x00D), ("RXCC", 0x00E), ("TXCC", 0x00F), ("SLOT", 0x010),
    ("CALLFMT", 0x011), ("CALLID1", 0x012), ("CALLID2", 0x013), ("CALLID3", 0x014), ("CALLID4", 0x015),
    ("OWNID1", 0x016), ("OWNID2", 0x017), ("OWNID3", 0x018), ("OWNID4", 0x019), ("NAMELEN", 0x01A)] ++
  [("STAT", 0x040), ("ERR", 0x041), ("CRCH", 0x042), ("CRCL", 0x043), ("CMDR", 0x044), ("PLEN", 0x045),
    ("TXLENH", 0x046), ("TXLENL", 0x047), ("RXLENH", 0x048), ("RXLENL", 0x049), ("RSTATE", 0x04A), ("LENR", 0x04B),
    ("BODYCNT", 0x04C), ("SCANH", 0x04D), ("SCANL", 0x04E), ("SKIPH", 0x04F), ("SKIPL", 0x050), ("WIN3", 0x051),
    ("WIN2", 0x052), ("WIN1", 0x053), ("WIN0", 0x054), ("DOUT", 0x055), ("PBUF", 0x100), ("TXBUF", 0x200),
    ("RXBUF", 0x400)]

/-- The lane of a character of the name, `NAMECH0` to `NAMECH31`. -/
def nameLane (name : List Char) : Option LaneAddr :=
  (List.range 32).findSome? fun i =>
    if name = "NAMECH".toList ++ (Nat.toDigits 10 i) then some (BitVec.ofNat 12 (0x020 + i)) else none

/-- The lane a name stands for. -/
def laneNamed (name : List Char) : Option LaneAddr :=
  match laneNames.find? (fun x => x.1.toList == name) with
  | some x => some x.2
  | none => nameLane name

/-- An address operand: `0x` and three hex digits, or a lane name. -/
def readAddress (operand : List Char) : Option LaneAddr :=
  match readHex 3 operand with
  | some a => some (BitVec.ofNat 12 a)
  | none => laneNamed operand

/-- A byte operand: `0x` and two hex digits. -/
def readByte (operand : List Char) : Option Byte :=
  match readHex 2 operand with
  | some b => some (BitVec.ofNat 8 b)
  | none => none

/-- The operations without an operand. -/
def plainOperations : List Instr :=
  [.nop, .rdb, .crcInit, .frmParse, .chPack, .chUnpack, .dmrPack, .dmrUnpack, .rsyStart, .rsyTmo]

/-- The operation of a mnemonic and an operand. -/
def readOperation (name operand : List Char) : Option Instr :=
  if name = "SEL".toList then (readAddress operand).map .sel
  else if name = "WRB".toList then (readByte operand).map .wrb
  else if name = "CRC.UPD".toList then (readByte operand).map .crcUpd
  else if name = "FRM.BUILD".toList then (readByte operand).map .frmBuild
  else if name = "RSY.BYTE".toList then (readByte operand).map .rsyByte
  else if operand = [] then plainOperations.find? (fun i => (mnemonic i).toList == name)
  else none

/-- The operation a line writes: what stands before a `;`, the mnemonic up to the first space, the operand after it
(R107). A line that writes none of the fifteen operations is no operation. -/
def readLine (line : List Char) : Option Instr :=
  let text := (line.takeWhile (· != ';')).dropWhile (· == ' ')
  let operand := (text.dropWhile (· != ' ')).dropWhile (· == ' ')
  if (operand.dropWhile (· != ' ')).all (· == ' ') then
    readOperation (text.takeWhile (· != ' ')) (operand.takeWhile (· != ' '))
  else none

end Sys2Proof.Machine
end

