-- ==== Sys2Proof/Safety.lean ====
section
/-! DEFINITION. What claims about runs are stated in: the invariants of the block. Nothing in the block can fault, so a safe run is one that keeps these. -/

namespace Sys2Proof.Machine

/-- The resynchronizer's registers agree with its state (spec/44_resync.md R192 to R201, R115): nothing is counted
before the first `RSY.START`; in HUNT the count is below the bound, the window does not hold the magic and holds no
more bytes than were taken; after a match the window is frozen on the magic and `SKIP = SCANCNT - 4`; in BODY fewer
than `LENR` bytes have been taken. -/
def State.ResyncOk (s : State) : Prop :=
  match s.rstate with
  | .idle => s.win = 0 ∧ s.scanCnt = 0 ∧ s.skip = 0 ∧ s.lenR = 0 ∧ s.bodyCnt = 0
  | .hunt =>
    s.scanCnt.toNat < s.params.maxScan.toNat ∧ s.win ≠ magicWindow ∧ s.win.toNat < 256 ^ s.scanCnt.toNat ∧
      s.skip = 0 ∧ s.lenR = 0 ∧ s.bodyCnt = 0
  | .len =>
    s.scanCnt.toNat ≤ s.params.maxScan.toNat ∧ s.win = magicWindow ∧ s.skip.toNat + 4 = s.scanCnt.toNat ∧
      s.lenR = 0 ∧ s.bodyCnt = 0
  | .body =>
    s.scanCnt.toNat ≤ s.params.maxScan.toNat ∧ s.win = magicWindow ∧ s.skip.toNat + 4 = s.scanCnt.toNat ∧
      s.bodyCnt.toNat < s.lenR.toNat
  | .done =>
    s.scanCnt.toNat ≤ s.params.maxScan.toNat ∧ s.bodyCnt.toNat ≤ s.lenR.toNat ∧
      ((s.win = magicWindow ∧ s.skip.toNat + 4 = s.scanCnt.toNat) ∨
        (s.win ≠ magicWindow ∧ s.skip = 0 ∧ s.lenR = 0))

/-- What every step keeps. -/
structure State.Inv (s : State) : Prop where
  /-- The parameters are in the ranges of the spec (spec/00_scope.md section 4). -/
  paramsValid : s.params.Valid
  /-- The memory is in its canonical form. -/
  memCanonical : Memory.wf s.mem = true
  /-- Only lanes of the four byte arrays are listed. -/
  memInBuffers : ∀ c ∈ s.mem, bufferLane c.1 = true
  /-- `ERR` never holds `Communication` or `Connection` (R241). -/
  errRaised : s.err ≠ .communication ∧ s.err ≠ .connection
  /-- The resynchronizer's registers agree with `RSTATE`. -/
  resyncOk : s.ResyncOk

/-- What the host finds to send is always a whole frame the encoder made, or nothing yet (D35, R136). -/
def State.TxHoldsFrame (s : State) : Prop :=
  s.txLen = 0 ∨
    ∃ (c : Byte) (p : List Byte), p.length ≤ payloadMax ∧ s.txLen.toNat = p.length + 8 ∧
      s.txbufBytes s.txLen.toNat = build c p

end Sys2Proof.Machine
end

