-- ==== Sys2Proof/Certificates/Slice0/Obligations.lean ====
section
/-! DEFINITION. The statements for the provers, from the spec's numbered rules. A next state written `{ s with … }` says its whole frame: every register, flag and counter not named is as before; where bytes are stored, the memory is said byte by byte. -/

open Sys2Proof Sys2Proof.Machine

/-! ### Encoding -/

/-- Every well-formed instruction is what its encoding decodes to, with every operand at every value. -/
def Obligations.DecodeOfEncodeIsTheInstruction : Prop :=
  ∀ i : Instr, i.wellFormed = true → decode (encode i) = i

/-- Every operation word is the encoding of what it decodes to; a wire command byte is, when it is one of the eleven
named codes, and otherwise stands for the frame build with that byte (log entry 2); and decoding gives only
well-formed instructions. -/
def Obligations.EncodeOfDecodeIsTheItem : Prop :=
  (∀ w : Half, encode (decode (.word w)) = .word w) ∧
  (∀ c : Byte, c ∈ [0x07, 0x0A, 0x0B, 0x27, 0x28, 0x29, 0x39, 0x40, 0x41, 0x43, 0x44] →
    encode (decode (.wire c)) = .wire c) ∧
  (∀ c : Byte, c ∉ [0x07, 0x0A, 0x0B, 0x27, 0x28, 0x29, 0x39, 0x40, 0x41, 0x43, 0x44] →
    decode (.wire c) = .frmBuild c) ∧
  ∀ p : PortItem, (decode p).wellFormed = true

/-- R82: `w & mask == match` selects the operation, row by row, with the operand of the row's shape (R81); the row 0xF
is reserved and illegal. -/
def Obligations.OperationMapFollowsMatchAndMask : Prop :=
  ∀ w : Half,
    (w &&& 0xFFFF = 0x0000 ↔ decode (.word w) = .nop) ∧
    (w &&& 0xF000 = 0x1000 ↔ decode (.word w) = .sel (w.setWidth 12)) ∧
    (w &&& 0xFF00 = 0x2000 ↔ decode (.word w) = .wrb (w.setWidth 8)) ∧
    (w &&& 0xFFFF = 0x3000 ↔ decode (.word w) = .rdb) ∧
    (w &&& 0xFFFF = 0x4000 ↔ decode (.word w) = .crcInit) ∧
    (w &&& 0xFF00 = 0x5000 ↔ decode (.word w) = .crcUpd (w.setWidth 8)) ∧
    (w &&& 0xFF00 = 0x6000 ↔ decode (.word w) = .frmBuild (w.setWidth 8)) ∧
    (w &&& 0xFFFF = 0x7000 ↔ decode (.word w) = .frmParse) ∧
    (w &&& 0xFFFF = 0x8000 ↔ decode (.word w) = .chPack) ∧
    (w &&& 0xFFFF = 0x9000 ↔ decode (.word w) = .chUnpack) ∧
    (w &&& 0xFFFF = 0xA000 ↔ decode (.word w) = .dmrPack) ∧
    (w &&& 0xFFFF = 0xB000 ↔ decode (.word w) = .dmrUnpack) ∧
    (w &&& 0xFFFF = 0xC000 ↔ decode (.word w) = .rsyStart) ∧
    (w &&& 0xFF00 = 0xD000 ↔ decode (.word w) = .rsyByte (w.setWidth 8)) ∧
    (w &&& 0xFFFF = 0xE000 ↔ decode (.word w) = .rsyTmo) ∧
    (w &&& 0xF000 = 0xF000 → decode (.word w) = .illegal w)

/-- R104: a word is illegal when `OPC == 0xF`, or a shape `N` operation has `ARG ≠ 0`, or a shape `B` operation has
`ARG[11:8] ≠ 0`; it sets the sticky `ILL`, answers `resp = 0x00` and changes nothing else. -/
def Obligations.IllegalWordSetsIllAndNothingElse : Prop :=
  (∀ w : Half,
    decode (.word w) = .illegal w ↔
      w >>> 12 = 0xF ∨
      (w >>> 12 ∈ ([0x0, 0x3, 0x4, 0x7, 0x8, 0x9, 0xA, 0xB, 0xC, 0xE] : List Half) ∧ w &&& 0x0FFF ≠ 0) ∨
      (w >>> 12 ∈ ([0x2, 0x5, 0x6, 0xD] : List Half) ∧ w &&& 0x0F00 ≠ 0)) ∧
  ∀ (w : Half) (s : State), exec (.illegal w) s = .next { s with ill := true, resp := 0 }

/-- Operation words written out from the spec's encodings decode to the operations they stand for; and, as the model's
choice (log entry 2; R89 gives a command byte no meaning in the block), the command byte 0x44 presented by itself
decodes to the instruction of that name. -/
def Obligations.WordsOfTheSpecDecode : Prop :=
  decode (.word 0x1100) = .sel 0x100 ∧
  decode (.word 0x201A) = .wrb 0x1A ∧
  decode (.word 0x5031) = .crcUpd 0x31 ∧
  decode (.word 0x6041) = .frmBuild 0x41 ∧
  decode (.word 0x8000) = .chPack ∧
  decode (.word 0xB000) = .dmrUnpack ∧
  decode (.word 0xD0A5) = .rsyByte 0xA5 ∧
  decode (.word 0xF000) = .illegal 0xF000 ∧
  decode (.wire 0x44) = .cmd44

/-! ### The step and reset -/

/-- A step performs the presented item: what `exec` does with the decoded instruction in the state from which the item
has been taken. -/
def Obligations.StepPerformsThePresentedItem : Prop :=
  ∀ (s : State) (p : PortItem) (i : Instr) (rest : List Input),
    s.inputs = .present p :: rest → decode p = i → i.wellFormed = true →
      step s = exec i { s with inputs := rest }

/-- R259: with no operation presented the block holds its state. -/
def Obligations.NothingPresentedHoldsTheState : Prop :=
  ∀ s : State, s.inputs = [] → step s = .next s

/-- The values are those of the table of R48, from every state; and `State.reset` is such a state. The rest of the
first clause is the model's choice: the parameters and the inputs still to come stay (log entries 1, 3), so does the
counter of free values (log entry 4), and `resp`, the model's own field, is 0 (log entry 5). -/
def Obligations.ResetPutsEveryPieceToItsValue : Prop :=
  (∀ (s : State) (rest : List Input), s.inputs = .resetEvent :: rest →
    step s = .next { State.reset with params := s.params, inputs := rest, freeCtr := s.freeCtr }) ∧
  ∀ (s : State), (∃ (p : Params) (r : List Input) (n : Nat),
      s = { State.reset with params := p, inputs := r, freeCtr := n }) →
    s.idx = 0 ∧ s.rxMode = 0 ∧ s.txMode = 0 ∧ s.rxFreq = 0 ∧ s.txFreq = 0 ∧ s.rxTone = 0 ∧ s.txTone = 0 ∧
    s.nameLen = 0 ∧ (∀ i < 32, s.namech i = 0) ∧
    s.rxCc = 0 ∧ s.txCc = 0 ∧ s.slot = 0 ∧ s.callId = 0 ∧ s.ownId = 0 ∧ s.callFmt = 0 ∧
    s.crc = 0xFFFF ∧ s.ptr = 0 ∧ s.dout = 0 ∧ s.crcOk = false ∧ s.ill = false ∧ s.noTerm = false ∧
    s.rstate = .idle ∧ s.win = 0 ∧ s.scanCnt = 0 ∧ s.skip = 0 ∧ s.lenR = 0 ∧ s.bodyCnt = 0 ∧
    s.rxLen = 0 ∧ s.txLen = 0 ∧ s.cmdR = 0 ∧ s.pLen = 0 ∧ s.err = .ok ∧
    (∀ i < 252, s.pbuf i = 0) ∧ (∀ i < 260, s.txbuf i = 0) ∧ (∀ i < 512, s.rxbuf i = 0)

/-- What follows from the reset values (the spec's own inference R49): after reset `STAT` reads 0x18 when
`MODE_DMR == 0` and 0x08 otherwise, received bytes are not accepted, and `CRC` already holds the init value; in every
state the reset event leaves, for every choice of the parameters. -/
def Obligations.StatusAfterReset : Prop :=
  ∀ (p : Params) (r : List Input) (n : Nat) (b : Byte) (s : State),
    s = { State.reset with params := p, inputs := r, freeCtr := n } →
    laneRead s 0x040 = (if p.modeDmr = 0 then 0x18 else 0x08) ∧
    exec (.rsyByte b) s = .next { s with resp := 0 } ∧
    exec .crcInit s = .next { s with resp := 0 }

/-! ### The lane space and the host access operations -/

/-- R66 over the map R61: what each lane reads as; an unmapped lane reads 0x00. -/
def Obligations.LaneMapReads : Prop :=
  ∀ s : State,
    laneRead s 0x000 = s.idx.extractLsb' 8 8 ∧ laneRead s 0x001 = s.idx.extractLsb' 0 8 ∧
    laneRead s 0x002 = s.rxMode ∧ laneRead s 0x003 = s.txMode ∧
    (∀ k < 4, laneRead s (0x004 + BitVec.ofNat 12 k) = s.rxFreq.extractLsb' (24 - 8 * k) 8) ∧
    (∀ k < 4, laneRead s (0x008 + BitVec.ofNat 12 k) = s.txFreq.extractLsb' (24 - 8 * k) 8) ∧
    laneRead s 0x00C = s.rxTone ∧ laneRead s 0x00D = s.txTone ∧
    laneRead s 0x00E = s.rxCc ∧ laneRead s 0x00F = s.txCc ∧ laneRead s 0x010 = s.slot ∧ laneRead s 0x011 = s.callFmt ∧
    (∀ k < 4, laneRead s (0x012 + BitVec.ofNat 12 k) = s.callId.extractLsb' (24 - 8 * k) 8) ∧
    (∀ k < 4, laneRead s (0x016 + BitVec.ofNat 12 k) = s.ownId.extractLsb' (24 - 8 * k) 8) ∧
    laneRead s 0x01A = s.nameLen ∧
    (∀ i < 32, laneRead s (0x020 + BitVec.ofNat 12 i) = s.namech i) ∧
    laneRead s 0x040 = s.stat ∧ laneRead s 0x041 = s.err.code ∧
    laneRead s 0x042 = s.crc.extractLsb' 8 8 ∧ laneRead s 0x043 = s.crc.extractLsb' 0 8 ∧
    laneRead s 0x044 = s.cmdR ∧ laneRead s 0x045 = s.pLen ∧
    laneRead s 0x046 = (s.txLen.extractLsb' 8 1).setWidth 8 ∧ laneRead s 0x047 = s.txLen.extractLsb' 0 8 ∧
    laneRead s 0x048 = (s.rxLen.extractLsb' 8 1).setWidth 8 ∧ laneRead s 0x049 = s.rxLen.extractLsb' 0 8 ∧
    laneRead s 0x04A = s.rstate.code ∧ laneRead s 0x04B = s.lenR ∧ laneRead s 0x04C = s.bodyCnt ∧
    laneRead s 0x04D = s.scanCnt.extractLsb' 8 8 ∧ laneRead s 0x04E = s.scanCnt.extractLsb' 0 8 ∧
    laneRead s 0x04F = s.skip.extractLsb' 8 8 ∧ laneRead s 0x050 = s.skip.extractLsb' 0 8 ∧
    (∀ k < 4, laneRead s (0x051 + BitVec.ofNat 12 k) = s.win.extractLsb' (24 - 8 * k) 8) ∧
    laneRead s 0x055 = s.dout ∧
    (∀ i < 252, laneRead s (0x100 + BitVec.ofNat 12 i) = s.pbuf i) ∧
    (∀ i < 260, laneRead s (0x200 + BitVec.ofNat 12 i) = s.txbuf i) ∧
    (∀ i < 512, laneRead s (0x400 + BitVec.ofNat 12 i) = s.rxbuf i) ∧
    ∀ a : LaneAddr, (0x01B ≤ a.toNat ∧ a.toNat < 0x020) ∨ (0x056 ≤ a.toNat ∧ a.toNat < 0x100) ∨
      (0x1FC ≤ a.toNat ∧ a.toNat < 0x200) ∨ (0x304 ≤ a.toNat ∧ a.toNat < 0x400) ∨ 0x600 ≤ a.toNat →
      laneRead s a = 0

/-- R33, R34, and the other bits of `STAT` in the layout of R31, recomputed at every read. -/
def Obligations.StatusLaneBits : Prop :=
  ∀ s : State,
    ((laneRead s 0x040).getLsbD 0 = true ↔ s.crcOk = true) ∧
    ((laneRead s 0x040).getLsbD 1 = true ↔ s.rstate = .hunt ∨ s.rstate = .len ∨ s.rstate = .body) ∧
    ((laneRead s 0x040).getLsbD 2 = true ↔ s.rstate = .done) ∧
    ((laneRead s 0x040).getLsbD 3 = true ↔ s.rxMode = s.params.modeUnused ∨ s.rxFreq = 0) ∧
    ((laneRead s 0x040).getLsbD 4 = true ↔ s.rxMode = s.params.modeDmr) ∧
    ((laneRead s 0x040).getLsbD 5 = true ↔ s.ill = true) ∧
    ((laneRead s 0x040).getLsbD 6 = true ↔ s.noTerm = true) ∧
    (laneRead s 0x040).getLsbD 7 = false

/-- The numbers the host reads: `RSTATE` (R36) and `ERR` (R241, D9). -/
def Obligations.StateAndResultNumbers : Prop :=
  ∀ s : State,
    (laneRead s 0x04A).toNat = (match s.rstate with
      | .idle => 0
      | .hunt => 1
      | .len => 2
      | .body => 3
      | .done => 4) ∧
    (laneRead s 0x041).toNat = (match s.err with
      | .ok => 0
      | .timeout => 1
      | .crcMismatch => 2
      | .communication => 3
      | .connection => 4
      | .malformedFrame => 5
      | .recLen => 6
      | .tooLong => 7)

/-- R110: `NOP` changes nothing (but the response). -/
def Obligations.NopChangesNothing : Prop :=
  decode (.word 0x0000) = .nop ∧
  ∀ s : State, exec .nop s = .next { s with resp := 0 }

/-- R111: `SEL a` sets `PTR` to `a`, whatever lane that is. -/
def Obligations.SelSetsThePointer : Prop :=
  ∀ (a : LaneAddr) (s : State),
    decode (.word ((0x1 : BitVec 4) ++ a)) = .sel a ∧ exec (.sel a) s = .next { s with ptr := a, resp := 0 }

/-- R112, R67: `WRB b` stores into the lane at `PTR` when that lane is RW in R61 (`RXLENH` takes bit 0 only), leaves
every other lane but `STAT` as it read, changes nothing at an RO or unmapped lane, and advances `PTR` modulo 4096
either way. -/
def Obligations.WrbStoresIntoTheSelectedLane : Prop :=
  ∀ (b : Byte) (s : State), decode (.word ((0x20 : Byte) ++ b)) = .wrb b ∧ ∃ t : State, exec (.wrb b) s = .next t ∧
    t.ptr.toNat = (s.ptr.toNat + 1) % 4096 ∧ t.resp = 0 ∧
    ((s.ptr.toNat < 0x01B ∨ (0x020 ≤ s.ptr.toNat ∧ s.ptr.toNat < 0x040) ∨ s.ptr = 0x044 ∨ s.ptr = 0x045 ∨ s.ptr = 0x049 ∨
        (0x100 ≤ s.ptr.toNat ∧ s.ptr.toNat < 0x1FC) ∨ (0x400 ≤ s.ptr.toNat ∧ s.ptr.toNat < 0x600)) →
      laneRead t s.ptr = b) ∧
    (s.ptr = 0x048 → laneRead t s.ptr = b &&& 1) ∧
    ((0x01B ≤ s.ptr.toNat ∧ s.ptr.toNat < 0x020) ∨
        (0x040 ≤ s.ptr.toNat ∧ s.ptr.toNat < 0x100 ∧ s.ptr ∉ ([0x044, 0x045, 0x048, 0x049] : List LaneAddr)) ∨
        (0x1FC ≤ s.ptr.toNat ∧ s.ptr.toNat < 0x400) ∨ 0x600 ≤ s.ptr.toNat →
      t = { s with ptr := s.ptr + 1, resp := 0 }) ∧
    ∀ a : LaneAddr, a ≠ s.ptr → a ≠ 0x040 → laneRead t a = laneRead s a

/-- What follows from the access column (the spec's own inference R114, its "cannot" half): what a host write cannot change, and that it clears no `ILL`. -/
def Obligations.WrbCannotTouchReadOnlyState : Prop :=
  ∀ (b : Byte) (s : State), ∃ t : State, exec (.wrb b) s = .next t ∧
    (∀ i < 260, t.txbuf i = s.txbuf i) ∧ t.txLen = s.txLen ∧ t.err = s.err ∧ t.crc = s.crc ∧ t.dout = s.dout ∧
    t.crcOk = s.crcOk ∧ t.ill = s.ill ∧ t.noTerm = s.noTerm ∧
    t.rstate = s.rstate ∧ t.win = s.win ∧ t.scanCnt = s.scanCnt ∧ t.skip = s.skip ∧ t.lenR = s.lenR ∧
    t.bodyCnt = s.bodyCnt ∧ t.params = s.params ∧ t.inputs = s.inputs ∧ t.freeCtr = s.freeCtr

/-- R113: `RDB` returns the byte of the lane at `PTR`, keeps it in `DOUT`, and advances `PTR`; from 0xFFF to 0x000. -/
def Obligations.RdbReturnsTheSelectedLane : Prop :=
  decode (.word 0x3000) = .rdb ∧
  (∀ s : State, exec .rdb s =
    .next { s with dout := laneRead s s.ptr, ptr := s.ptr + 1, resp := laneRead s s.ptr }) ∧
  ∀ s t : State, s.ptr = 0xFFF → exec .rdb s = .next t → t.ptr = 0

/-- The big-endian lane order of R61 and R62 with R112: four writes from the lane of a 32-bit register load it most significant byte first. -/
def Obligations.FourWritesLoadAWideRegister : Prop :=
  ∀ (b3 b2 b1 b0 : Byte) (s : State),
    execAll (pseudoWrs 0x004 [b3, b2, b1, b0]) s =
      .next { s with rxFreq := b3 ++ b2 ++ b1 ++ b0, ptr := 0x008, resp := 0 } ∧
    execAll (pseudoWrs 0x008 [b3, b2, b1, b0]) s =
      .next { s with txFreq := b3 ++ b2 ++ b1 ++ b0, ptr := 0x00C, resp := 0 } ∧
    execAll (pseudoWrs 0x012 [b3, b2, b1, b0]) s =
      .next { s with callId := b3 ++ b2 ++ b1 ++ b0, ptr := 0x016, resp := 0 } ∧
    execAll (pseudoWrs 0x016 [b3, b2, b1, b0]) s =
      .next { s with ownId := b3 ++ b2 ++ b1 ++ b0, ptr := 0x01A, resp := 0 }

/-- R108: `LOADP` leaves its bytes in `PBUF` and their number in `PLEN`, and changes nothing else but `PTR`. -/
def Obligations.LoadpLoadsThePayload : Prop :=
  ∀ (bs : List Byte) (s : State), bs.length ≤ 252 →
    ∃ t : State, execAll (pseudoLoadp bs) s = .next t ∧
      t = { s with mem := t.mem, pLen := BitVec.ofNat 8 bs.length, ptr := 0x046, resp := 0 } ∧
      t.pbufBytes bs.length = bs ∧
      ∀ a : Nat, a < 0x100 ∨ 0x100 + bs.length ≤ a → memRead t.mem a = memRead s.mem a

/-- R180: each byte key of the external flat mapping is the lane of that name (suffix 1 the most significant byte, as the
spec infers), and the name is the characters in the lanes from 0x020 on. -/
def Obligations.FlatKeysNameTheirLanes : Prop :=
  (∀ (s : State) (k : FlatKey), laneRead s (flatLane k) = flatByte s k) ∧
  ∀ s : State, (flatName s).length = min s.nameLen.toNat 32 ∧
    ∀ i < min s.nameLen.toNat 32, (flatName s)[i]? = some (laneRead s (0x020 + BitVec.ofNat 12 i))

/-! ### The CRC generator -/

/-- R124: `CRC.INIT` puts 0xFFFF into `CRC`. -/
def Obligations.CrcInitLoadsTheInitValue : Prop :=
  decode (.word 0x4000) = .crcInit ∧ ∀ s : State, exec .crcInit s = .next { s with crc := 0xFFFF, resp := 0 }

/-- R125: `CRC.UPD b` puts `crc_step(CRC, b)` into `CRC`. -/
def Obligations.CrcUpdStepsTheRegister : Prop :=
  ∀ (b : Byte) (s : State),
    decode (.word ((0x50 : Byte) ++ b)) = .crcUpd b ∧ exec (.crcUpd b) s = .next { s with crc := crcStep s.crc b, resp := 0 }

/-- The bit-serial form of R123 gives the function of R121 (the spec's own inference). -/
def Obligations.BitSerialCrcEqualsByteCrc : Prop :=
  ∀ (c : Half) (b : Byte), crcStepSerial c b = crcStep c b

/-- From R122, R124, R125 and R27 (the spec's own inference R126): after `CRC.INIT`, whatever other operations fall between, `CRC` is the CRC of the bytes given to
`CRC.UPD`. -/
def Obligations.CrcRegisterIsCrc16OfItsBytes : Prop :=
  ∀ (is : List Instr) (s : State), .crcInit ∉ is →
    ∃ t : State, execAll (.crcInit :: is) s = .next t ∧
      t.crc = crc16 (is.filterMap fun i => match i with
        | .crcUpd b => some b
        | _ => none)

/-- From R122 (the spec's own inference R128): the CRC run over a string and two more bytes is zero exactly when these are the string's CRC. -/
def Obligations.CrcResidueIsZero : Prop :=
  ∀ (d : List Byte) (hi lo : Byte), crc16 (d ++ [hi, lo]) = 0 ↔ hi ++ lo = crc16 d

/-! ### The frame -/

/-- R136 (R84, R135) and R137: `FRM.BUILD c` with `PLEN ≤ 252` writes the frame into `TXBUF`, `TXLEN`, `ERR` and nothing
else; with `PLEN` of 253, 254 or 255 it reports `TooLong` and writes nothing but `ERR`. -/
def Obligations.FrmBuildWritesTheFrame : Prop :=
  ∀ (c : Byte) (s : State),
    decode (.word ((0x60 : Byte) ++ c)) = .frmBuild c ∧
    (252 < s.pLen.toNat → exec (.frmBuild c) s = .next { s with err := .tooLong, resp := 0 }) ∧
    (s.pLen.toNat ≤ 252 → ∃ t : State, exec (.frmBuild c) s = .next t ∧
      t = { s with mem := t.mem, txLen := t.txLen, err := .ok, resp := 0 } ∧
      t.txLen.toNat = s.pLen.toNat + 8 ∧
      (∀ i < 4, t.txbuf i = 0xA5) ∧
      t.txbuf 4 = BitVec.ofNat 8 (s.pLen.toNat + 3) ∧
      t.txbuf 5 = c ∧
      (∀ i < s.pLen.toNat, t.txbuf (6 + i) = s.pbuf i) ∧
      t.txbuf (6 + s.pLen.toNat) ++ t.txbuf (7 + s.pLen.toNat) =
        crc16 (BitVec.ofNat 8 (s.pLen.toNat + 3) :: c :: s.pbufBytes s.pLen.toNat) ∧
      ∀ a : Nat, a < 0x200 ∨ 0x200 + s.pLen.toNat + 8 ≤ a → memRead t.mem a = memRead s.mem a)

/-- Each named wire command (R220 to R230) builds its frame as `FRM.BUILD` does with its code, and a parse of that
frame delivers the code (that a code presented by itself does so is the model's choice, log entry 2). -/
def Obligations.WireCommandsBuildTheirFrames : Prop :=
  ∀ x ∈ ([(.cmd07, 0x07), (.cmd0A, 0x0A), (.cmd0B, 0x0B), (.cmd27, 0x27), (.cmd28, 0x28), (.cmd29, 0x29),
      (.cmd39, 0x39), (.cmd40, 0x40), (.cmd41, 0x41), (.cmd43, 0x43), (.cmd44, 0x44)] : List (Instr × Byte)),
    ∀ s : State,
      (s.pLen.toNat ≤ 252 → ∃ t : State, exec x.1 s = .next t ∧
        t = { s with mem := t.mem, txLen := t.txLen, err := .ok, resp := 0 } ∧
        t.txLen.toNat = s.pLen.toNat + 8 ∧
        t.txbufBytes (s.pLen.toNat + 8) = build x.2 (s.pbufBytes s.pLen.toNat) ∧
        (∀ a : Nat, a < 0x200 ∨ 0x200 + s.pLen.toNat + 8 ≤ a → memRead t.mem a = memRead s.mem a) ∧
        parse (t.txbufBytes (s.pLen.toNat + 8)) = .frame x.2 (s.pbufBytes s.pLen.toNat) true) ∧
      (252 < s.pLen.toNat → exec x.1 s = .next { s with err := .tooLong, resp := 0 })

/-- The round trip R143, to the bound of 252 payload bytes that the spec infers: `parse(build(command, payload))` gives
the command, the payload and a valid CRC. -/
def Obligations.ParseOfBuildGivesTheFrameBack : Prop :=
  ∀ (c : Byte) (p : List Byte), p.length ≤ 252 → parse (build c p) = .frame c p true

/-- R141 on any candidate that is long enough: bytes after the frame are ignored, and the CRC is valid exactly when
the two received bytes are the CRC of `length ‖ command ‖ payload`. -/
def Obligations.ParseComparesTheReceivedCrc : Prop :=
  ∀ (c : Byte) (p extra : List Byte) (hi lo : Byte), p.length ≤ 252 →
    parse ([0xA5, 0xA5, 0xA5, 0xA5] ++ (BitVec.ofNat 8 (p.length + 3) :: c :: p) ++ [hi, lo] ++ extra) =
      .frame c p (decide (hi ++ lo = crc16 (BitVec.ofNat 8 (p.length + 3) :: c :: p)))

/-- R140, R144: `parse` fails exactly on a buffer of fewer than 8 bytes, one that does not start with the magic, one
with a declared length below 3, and one whose declared length exceeds the bytes after the length byte. -/
def Obligations.ParseRejectsExactlyTheMalformed : Prop :=
  ∀ buf : List Byte,
    parse buf = .malformed ↔
      buf.length < 8 ∨ buf.take 4 ≠ [0xA5, 0xA5, 0xA5, 0xA5] ∨ (buf.getD 4 0).toNat < 3 ∨
        buf.length < (buf.getD 4 0).toNat + 5

/-- R142: the two outcomes of `FRM.PARSE`; a CRC mismatch is `OK` with `CRCOK = 0`. -/
def Obligations.FrmParseReportsTheParse : Prop :=
  decode (.word 0x7000) = .frmParse ∧ ∀ s : State,
    (parse (s.rxbufBytes s.rxLen.toNat) = .malformed →
      exec .frmParse s = .next { s with crcOk := false, err := .malformedFrame, resp := 0 }) ∧
    ∀ (c : Byte) (p : List Byte) (v : Bool), parse (s.rxbufBytes s.rxLen.toNat) = .frame c p v →
      ∃ t : State, exec .frmParse s = .next t ∧
        t = { s with mem := t.mem, cmdR := c, pLen := t.pLen, crcOk := v, err := .ok, resp := 0 } ∧
        t.pLen.toNat = p.length ∧ p.length = (s.rxbuf 4).toNat - 3 ∧
        t.pbufBytes p.length = p ∧
        ∀ a : Nat, a < 0x100 ∨ 0x100 + p.length ≤ a → memRead t.mem a = memRead s.mem a

/-! ### The channel records -/

/-- R160 with R161: `CH.PACK` writes the basic record into `PBUF[0..25]`, `PLEN`, `ERR` and nothing else. -/
def Obligations.ChPackWritesTheBasicRecord : Prop :=
  decode (.word 0x8000) = .chPack ∧ ∀ s : State, ∃ t : State, exec .chPack s = .next t ∧
    t = { s with mem := t.mem, pLen := 26, err := .ok, resp := 0 } ∧
    t.pbuf 0 = s.idx.extractLsb' 8 8 ∧ t.pbuf 1 = s.idx.extractLsb' 0 8 ∧
    t.pbuf 2 = s.rxMode ∧ t.pbuf 3 = s.txMode ∧
    (∀ k < 4, t.pbuf (4 + k) = s.rxFreq.extractLsb' (24 - 8 * k) 8) ∧
    (∀ k < 4, t.pbuf (8 + k) = s.txFreq.extractLsb' (24 - 8 * k) 8) ∧
    t.pbuf 12 = s.rxTone ∧ t.pbuf 13 = s.txTone ∧
    (∀ i < 12, t.pbuf (14 + i) =
      if i < min (min s.nameLen.toNat 32) 11 then
        (if (s.namech i).toNat < 0x80 then s.namech i else s.params.subst)
      else 0) ∧
    ∀ a : Nat, a < 0x100 ∨ 0x11A ≤ a → memRead t.mem a = memRead s.mem a

/-- R164 with R165: `CH.UNPACK` reports `RecLen` and changes nothing else unless `PLEN = 26`; then it loads the
basic-record registers, the name before the first NUL (or all twelve bytes, with `NOTERM`), and zeroes the rest of
`NAMECH`. -/
def Obligations.ChUnpackLoadsTheBasicRecord : Prop :=
  decode (.word 0x9000) = .chUnpack ∧ ∀ s : State,
    (s.pLen ≠ 26 → exec .chUnpack s = .next { s with err := .recLen, resp := 0 }) ∧
    (s.pLen = 26 → ∃ (t : State) (k : Nat), exec .chUnpack s = .next t ∧
      t = { s with
        mem := t.mem, idx := s.pbuf 0 ++ s.pbuf 1, rxMode := s.pbuf 2, txMode := s.pbuf 3,
        rxFreq := s.pbuf 4 ++ s.pbuf 5 ++ s.pbuf 6 ++ s.pbuf 7, txFreq := s.pbuf 8 ++ s.pbuf 9 ++ s.pbuf 10 ++ s.pbuf 11,
        rxTone := s.pbuf 12, txTone := s.pbuf 13, nameLen := BitVec.ofNat 8 k, noTerm := decide (k = 12), err := .ok,
        resp := 0 } ∧
      k ≤ 12 ∧ (∀ i < k, s.pbuf (14 + i) ≠ 0) ∧ (k < 12 → s.pbuf (14 + k) = 0) ∧
      (∀ i < k, t.namech i = s.pbuf (14 + i)) ∧ (∀ i, k ≤ i → i < 32 → t.namech i = 0) ∧
      ∀ a : Nat, a < 0x020 ∨ 0x040 ≤ a → memRead t.mem a = memRead s.mem a)

/-- R170: `DMR.PACK` writes the DMR record into `PBUF[0..25]`, `PLEN`, `ERR` and nothing else. -/
def Obligations.DmrPackWritesTheDmrRecord : Prop :=
  decode (.word 0xA000) = .dmrPack ∧ ∀ s : State, ∃ t : State, exec .dmrPack s = .next t ∧
    t = { s with mem := t.mem, pLen := 26, err := .ok, resp := 0 } ∧
    t.pbuf 0 = s.idx.extractLsb' 8 8 ∧ t.pbuf 1 = s.idx.extractLsb' 0 8 ∧ t.pbuf 2 = 0 ∧
    t.pbuf 3 = s.rxCc &&& 0x0F ∧ t.pbuf 4 = s.txCc &&& 0x0F ∧ t.pbuf 5 = s.slot ∧
    (∀ k < 4, t.pbuf (6 + k) = s.callId.extractLsb' (24 - 8 * k) 8) ∧
    (∀ k < 4, t.pbuf (10 + k) = s.ownId.extractLsb' (24 - 8 * k) 8) ∧
    (∀ i, 14 ≤ i → i < 19 → t.pbuf i = 0) ∧ t.pbuf 19 = s.callFmt ∧
    (∀ i, 20 ≤ i → i < 25 → t.pbuf i = 0) ∧ t.pbuf 25 = 1 ∧
    ∀ a : Nat, a < 0x100 ∨ 0x11A ≤ a → memRead t.mem a = memRead s.mem a

/-- R172: `DMR.UNPACK` reports `RecLen` and changes nothing else unless `PLEN = 26`; then it loads the DMR registers,
whole bytes, unmasked, and nothing else. -/
def Obligations.DmrUnpackLoadsTheDmrRecord : Prop :=
  decode (.word 0xB000) = .dmrUnpack ∧ ∀ s : State,
    (s.pLen ≠ 26 → exec .dmrUnpack s = .next { s with err := .recLen, resp := 0 }) ∧
    (s.pLen = 26 → exec .dmrUnpack s = .next { s with
      idx := s.pbuf 0 ++ s.pbuf 1, rxCc := s.pbuf 3, txCc := s.pbuf 4, slot := s.pbuf 5,
      callId := s.pbuf 6 ++ s.pbuf 7 ++ s.pbuf 8 ++ s.pbuf 9,
      ownId := s.pbuf 10 ++ s.pbuf 11 ++ s.pbuf 12 ++ s.pbuf 13, callFmt := s.pbuf 19, err := .ok, resp := 0 })

/-- From R160, R161, R164, R165 (the spec's own inference R166): `CH.PACK` then `CH.UNPACK` leaves the fixed-width registers as they were, leaves the name as it was if and
only if `NAMELEN ≤ 11` and none of its characters is 0x00 or 0x80 and above, and zeroes `NAMECH` from the new `NAMELEN`
on. -/
def Obligations.BasicRecordRoundTrip : Prop :=
  ∀ s : State, s.params.Valid →
    ∃ t : State, execAll [.chPack, .chUnpack] s = .next t ∧
      t.idx = s.idx ∧ t.rxMode = s.rxMode ∧ t.txMode = s.txMode ∧ t.rxFreq = s.rxFreq ∧ t.txFreq = s.txFreq ∧
      t.rxTone = s.rxTone ∧ t.txTone = s.txTone ∧
      ((t.nameLen = s.nameLen ∧ ∀ i < s.nameLen.toNat, t.namech i = s.namech i) ↔
        s.nameLen.toNat ≤ 11 ∧ ∀ i < s.nameLen.toNat, s.namech i ≠ 0 ∧ (s.namech i).toNat < 0x80) ∧
      ∀ i, t.nameLen.toNat ≤ i → i < 32 → t.namech i = 0

/-- From R161, R165 (the spec's own inference R167): `CH.UNPACK` then `CH.PACK` reproduces `PBUF[0..13]`, and reproduces the name field if and only if it was at
most 11 bytes below 0x80 and not 0x00, followed by 0x00 up to the end. -/
def Obligations.UnpackedBasicRecordPacksBack : Prop :=
  ∀ s : State, s.params.Valid → s.pLen = 26 →
    ∃ t : State, execAll [.chUnpack, .chPack] s = .next t ∧
      (∀ i < 14, t.pbuf i = s.pbuf i) ∧
      ((∀ i, 14 ≤ i → i < 26 → t.pbuf i = s.pbuf i) ↔
        ∃ k ≤ 11, (∀ i < k, s.pbuf (14 + i) ≠ 0 ∧ (s.pbuf (14 + i)).toNat < 0x80) ∧
          ∀ i, k ≤ i → i < 12 → s.pbuf (14 + i) = 0)

/-- From R170, R172 (the spec's own inference R173): both round trips of the DMR record. -/
def Obligations.DmrRecordRoundTrip : Prop :=
  (∀ s : State, ∃ t : State, execAll [.dmrPack, .dmrUnpack] s = .next t ∧
    t.idx = s.idx ∧ t.slot = s.slot ∧ t.callId = s.callId ∧ t.ownId = s.ownId ∧ t.callFmt = s.callFmt ∧
    t.rxCc.toNat = s.rxCc.toNat % 16 ∧ t.txCc.toNat = s.txCc.toNat % 16) ∧
  ∀ s : State, s.pLen = 26 → ∃ t : State, execAll [.dmrUnpack, .dmrPack] s = .next t ∧
    ((∀ i < 26, t.pbuf i = s.pbuf i) ↔
      s.pbuf 2 = 0 ∧ (∀ i, 14 ≤ i → i < 19 → s.pbuf i = 0) ∧ (∀ i, 20 ≤ i → i < 25 → s.pbuf i = 0) ∧
        s.pbuf 25 = 1 ∧ (s.pbuf 3).toNat ≤ 0x0F ∧ (s.pbuf 4).toNat ≤ 0x0F)

/-! ### The stream resynchronizer -/

/-- R195: `RSY.START` arms a receive from every `RSTATE`; `RXBUF`, `CMDR`, `PBUF`, `PLEN`, `CRC` and the field
registers stay. -/
def Obligations.RsyStartArmsAReceive : Prop :=
  decode (.word 0xC000) = .rsyStart ∧ ∀ s : State, exec .rsyStart s = .next { s with
    rstate := .hunt, win := 0, scanCnt := 0, skip := 0, lenR := 0, bodyCnt := 0, rxLen := 0, crcOk := false, err := .ok,
    resp := 0 }

/-- R199: a byte offered in IDLE or DONE is not accepted and nothing else changes. -/
def Obligations.ByteNotAcceptedWhenNotArmed : Prop :=
  ∀ (b : Byte) (s : State), s.rstate = .idle ∨ s.rstate = .done →
    exec (.rsyByte b) s = .next { s with resp := 0 }

/-- From R197, R198: a byte taken in HUNT, in its three outcomes; the match is tested before the count. In states that
no run reaches (`SCANCNT` at 65535, or a match with `SCANCNT` below 4, both shut out by `State.Inv`) the sums wrap, which
is the model's choice (log entry 7), not the spec's (R115: no counter wraps in a run). -/
def Obligations.HuntByteMatchesCountsOrGoesOn : Prop :=
  ∀ (b : Byte) (s : State), s.rstate = .hunt →
    (s.win.extractLsb' 0 24 ++ b = 0xA5A5A5A5 → ∃ t : State, exec (.rsyByte b) s = .next t ∧
      t = { s with
        mem := t.mem, scanCnt := s.scanCnt + 1, win := 0xA5A5A5A5, rxLen := 4, skip := s.scanCnt + 1 - 4, rstate := .len,
        resp := 1 } ∧
      (∀ i < 4, t.rxbuf i = 0xA5) ∧ ∀ a : Nat, a < 0x400 ∨ 0x404 ≤ a → memRead t.mem a = memRead s.mem a) ∧
    (s.win.extractLsb' 0 24 ++ b ≠ 0xA5A5A5A5 → s.scanCnt + 1 = s.params.maxScan →
      exec (.rsyByte b) s = .next { s with
        scanCnt := s.scanCnt + 1, win := s.win.extractLsb' 0 24 ++ b, rstate := .done, crcOk := false, err := .timeout,
        resp := 1 }) ∧
    (s.win.extractLsb' 0 24 ++ b ≠ 0xA5A5A5A5 → s.scanCnt + 1 ≠ s.params.maxScan →
      exec (.rsyByte b) s = .next { s with
        scanCnt := s.scanCnt + 1, win := s.win.extractLsb' 0 24 ++ b, resp := 1 })

/-- R200: the length byte is taken as it comes, and 0 completes at once; that `complete()` (R203) then ends
`MalformedFrame` is the spec's own inference (R204, from R141). -/
def Obligations.LenByteIsTakenAsItComes : Prop :=
  ∀ (b : Byte) (s : State), s.rstate = .len →
    ∃ t : State, exec (.rsyByte b) s = .next t ∧
      (b ≠ 0 → t = { s with mem := t.mem, lenR := b, rxLen := 5, bodyCnt := 0, rstate := .body, resp := 1 }) ∧
      (b = 0 → t = { s with
        mem := t.mem, lenR := 0, rxLen := 5, bodyCnt := 0, rstate := .done, crcOk := false, err := .malformedFrame,
        resp := 1 }) ∧
      t.rxbuf 4 = b ∧ ∀ a : Nat, a ≠ 0x404 → memRead t.mem a = memRead s.mem a

/-- From R201, before the last byte: the byte goes to `RXBUF[5 + BODYCNT]`, the counts rise, nothing else changes. When
a host write has left `RXLEN` at 511 the sum does not fit, and `RXLEN` holds some value (log entry 4). In states that no
run reaches (`BODYCNT` at 255, shut out by `State.Inv`) `BODYCNT` wraps to 0, the model's choice (log entry 7). -/
def Obligations.BodyByteIsCollected : Prop :=
  ∀ (b : Byte) (s : State), s.rstate = .body → s.bodyCnt + 1 ≠ s.lenR →
    ∃ (t : State) (v : Len), exec (.rsyByte b) s = .next t ∧
      t = { s with mem := t.mem, bodyCnt := s.bodyCnt + 1, rxLen := v, freeCtr := t.freeCtr, resp := 1 } ∧
      (s.rxLen.toNat < 511 → v = s.rxLen + 1 ∧ t.freeCtr = s.freeCtr) ∧
      t.rxbuf (5 + s.bodyCnt.toNat) = b ∧
      ∀ a : Nat, a ≠ 0x405 + s.bodyCnt.toNat → memRead t.mem a = memRead s.mem a

/-- From R203 and R201: the last byte hands `RXBUF[0..RXLEN-1]`, as it then stands, to `parse`; a CRC mismatch is
`CrcMismatch` here, and the command and payload are delivered all the same. When a host write has left `RXLEN` at 511,
`RXLEN` holds some value (log entry 4), and the same holds with it; the number of payload bytes delivered is that of the
payload parsed (log entry 8). In states that no run reaches (`BODYCNT` at 255 with `LENR` 0, shut out by `State.Inv`)
the last byte is found by the wrap of `BODYCNT`, the model's choice (log entry 7). -/
def Obligations.LastBodyByteCompletesTheReceive : Prop :=
  ∀ (b : Byte) (s : State), s.rstate = .body → s.bodyCnt + 1 = s.lenR →
    ∃ (t : State) (n : Len), exec (.rsyByte b) s = .next t ∧
      (s.rxLen.toNat < 511 → n = s.rxLen + 1 ∧ t.freeCtr = s.freeCtr) ∧
      t.rxbuf (5 + s.bodyCnt.toNat) = b ∧
      (parse (t.rxbufBytes n.toNat) = .malformed →
        t = { s with
          mem := t.mem, bodyCnt := s.lenR, rxLen := n, freeCtr := t.freeCtr, rstate := .done, crcOk := false,
          err := .malformedFrame, resp := 1 } ∧
        ∀ a : Nat, a ≠ 0x405 + s.bodyCnt.toNat → memRead t.mem a = memRead s.mem a) ∧
      ∀ (c : Byte) (p : List Byte) (v : Bool), parse (t.rxbufBytes n.toNat) = .frame c p v →
        t = { s with
          mem := t.mem, bodyCnt := s.lenR, rxLen := n, freeCtr := t.freeCtr, rstate := .done, cmdR := c, pLen := t.pLen,
          crcOk := v, err := (if v then .ok else .crcMismatch), resp := 1 } ∧
        t.pLen.toNat = p.length ∧ t.pbufBytes p.length = p ∧
        ∀ a : Nat, a ≠ 0x405 + s.bodyCnt.toNat → a < 0x100 ∨ 0x100 + p.length ≤ a → memRead t.mem a = memRead s.mem a

/-- R205: `RSY.TMO` ends a receive in HUNT, LEN or BODY with `Timeout` and leaves what was collected; in IDLE and DONE
it changes nothing. -/
def Obligations.DeadlineEndsAReceiveInProgress : Prop :=
  decode (.word 0xE000) = .rsyTmo ∧ ∀ s : State,
    (s.rstate = .hunt ∨ s.rstate = .len ∨ s.rstate = .body →
      exec .rsyTmo s = .next { s with rstate := .done, crcOk := false, err := .timeout, resp := 1 }) ∧
    (s.rstate = .idle ∨ s.rstate = .done → exec .rsyTmo s = .next { s with resp := 0 })

/-- R195 to R203 over a whole receive (with the spec's own inference R204): after `RSY.START`, the magic, a length byte `L` and exactly `L` body bytes, the
receive is DONE with what `parse` says of the candidate; it is `MalformedFrame` exactly when `L < 3`. -/
def Obligations.ReceiveEndsWithTheParseOfTheCandidate : Prop :=
  ∀ (s : State) (L : Byte) (body : List Byte), 4 ≤ s.params.maxScan.toNat → body.length = L.toNat →
    ∃ t : State, execAll (.rsyStart :: pseudoFeed ([0xA5, 0xA5, 0xA5, 0xA5] ++ L :: body)) s = .next t ∧
      t.rstate = .done ∧ t.rxLen.toNat = L.toNat + 5 ∧ t.lenR = L ∧ t.bodyCnt = L ∧ t.skip = 0 ∧
      t.rxbufBytes (L.toNat + 5) = [0xA5, 0xA5, 0xA5, 0xA5] ++ L :: body ∧
      (t.err = .malformedFrame ↔ L.toNat < 3) ∧
      (L.toNat < 3 → t.crcOk = false ∧ t.cmdR = s.cmdR ∧ t.pLen = s.pLen ∧ ∀ i < 252, t.pbuf i = s.pbuf i) ∧
      ∀ (c : Byte) (p : List Byte) (v : Bool), parse ([0xA5, 0xA5, 0xA5, 0xA5] ++ L :: body) = .frame c p v →
        t.cmdR = c ∧ t.pLen.toNat = p.length ∧ t.pbufBytes p.length = p ∧ t.crcOk = v ∧
          t.err = (if v then .ok else .crcMismatch)

/-- R195 to R203 for every frame behind every noise (the spec's own inference R210 takes one of 37 bytes, R273 says what
"non-matching" means): if the noise ends in no 0xA5 and holds no magic, and fits the byte bound
with the magic, then the receive delivers the frame and `SKIP` is the length of the noise. -/
def Obligations.ReceiveFindsTheFrameBehindNoise : Prop :=
  ∀ (s : State) (noise : List Byte) (c : Byte) (p : List Byte),
    p.length ≤ 252 → noise.length + 4 ≤ s.params.maxScan.toNat →
    noise.getLast? ≠ some 0xA5 → ¬ [0xA5, 0xA5, 0xA5, 0xA5] <:+: noise →
      ∃ t : State, execAll (.rsyStart :: pseudoFeed (noise ++ build c p)) s = .next t ∧
        t.rstate = .done ∧ t.err = .ok ∧ t.crcOk = true ∧ t.skip.toNat = noise.length ∧
        t.scanCnt.toNat = noise.length + 4 ∧ t.lenR.toNat = p.length + 3 ∧ t.bodyCnt = t.lenR ∧
        t.rxLen.toNat = p.length + 8 ∧ t.rxbufBytes (p.length + 8) = build c p ∧
        t.cmdR = c ∧ t.pLen.toNat = p.length ∧ t.pbufBytes p.length = p

/-! ### Whole-machine rules -/

/-- The arcs of R192, which the spec infers from R195 to R205: DONE is left only by `RSY.START`; no operation but `RSY.START` goes from LEN or BODY back to HUNT; IDLE is
left only by `RSY.START` and entered by no operation. -/
def Obligations.ResynchronizerLeavesDoneOnlyByStart : Prop :=
  ∀ (i : Instr) (s : State), ∃ t : State, exec i s = .next t ∧
    (i ≠ .rsyStart →
      (s.rstate = .done → t.rstate = .done) ∧ (s.rstate = .idle → t.rstate = .idle) ∧
      (s.rstate = .hunt → t.rstate = .hunt ∨ t.rstate = .len ∨ t.rstate = .done) ∧
      (s.rstate = .len → t.rstate = .len ∨ t.rstate = .body ∨ t.rstate = .done) ∧
      (s.rstate = .body → t.rstate = .body ∨ t.rstate = .done)) ∧
    (i = .rsyStart → t.rstate = .hunt)

/-- The writers of `ERR` (the spec's own inference R242): which operations write `ERR`. Those that always do leave a code that does not depend on the old one; an
`RSY.BYTE` does only on a step that enters DONE; the others leave it. -/
def Obligations.ErrIsWrittenOnlyByReportingOperations : Prop :=
  (∀ (i : Instr) (s t : State), exec i s = .next t →
    ((i = .nop ∨ (∃ a, i = .sel a) ∨ (∃ b, i = .wrb b) ∨ i = .rdb ∨ i = .crcInit ∨ (∃ b, i = .crcUpd b) ∨
        (∃ w, i = .illegal w)) → t.err = s.err) ∧
    ((∃ b, i = .rsyByte b) → ¬ (s.rstate ≠ .done ∧ t.rstate = .done) → t.err = s.err) ∧
    (i = .rsyTmo → t.resp = 0 → t.err = s.err)) ∧
  (∀ (i : Instr) (s : State) (e : ResultCode),
    ((∃ c, i = .frmBuild c) ∨ i = .frmParse ∨ i = .chPack ∨ i = .chUnpack ∨ i = .dmrPack ∨ i = .dmrUnpack ∨
      i = .rsyStart) → exec i { s with err := e } = exec i s) ∧
  (∀ (b : Byte) (s : State) (e : ResultCode) (t : State), exec (.rsyByte b) s = .next t →
    s.rstate ≠ .done → t.rstate = .done → exec (.rsyByte b) { s with err := e } = .next t) ∧
  ∀ (s : State) (e : ResultCode) (t : State), exec .rsyTmo s = .next t → t.resp = 1 →
    exec .rsyTmo { s with err := e } = .next t

/-- R32: `CRCOK` is written by `FRM.PARSE`, by a `RSY.BYTE` step that enters DONE, by `RSY.START` and by an accepted
`RSY.TMO`, and by nothing else. -/
def Obligations.CrcOkIsWrittenOnlyByParsesAndEnds : Prop :=
  ∀ (i : Instr) (s : State), ∃ t : State, exec i s = .next t ∧
    (t.crcOk = s.crcOk ∨ i = .frmParse ∨ i = .rsyStart ∨ (i = .rsyTmo ∧ t.resp = 1) ∨
      ((∃ b, i = .rsyByte b) ∧ s.rstate ≠ .done ∧ t.rstate = .done))

/-- R35 over steps: `ILL` is set by an illegal word and cleared only by reset; `NOTERM` is written only by a
successful `CH.UNPACK` and by reset. -/
def Obligations.IllIsStickyAndNotermHasOneWriter : Prop :=
  ∀ s : State, ∃ t : State, step s = .next t ∧
    ((∀ rest, s.inputs ≠ .resetEvent :: rest) →
      (t.ill = true ↔ s.ill = true ∨ ∃ w rest, s.inputs = .present (.word w) :: rest ∧ illegalWord w = true) ∧
      (t.noTerm = s.noTerm ∨ (∃ rest, s.inputs = .present (.word 0x9000) :: rest) ∧ s.pLen = 26)) ∧
    (∀ rest, s.inputs = .present (.word 0x9000) :: rest → s.pLen = 26 →
      (t.noTerm = true ↔ ∀ i < 12, s.pbuf (14 + i) ≠ 0)) ∧
    (∀ rest, s.inputs = .resetEvent :: rest → t.ill = false ∧ t.noTerm = false)

/-- R27, R29, R30, R40, R45: the writers of `CRC`, `PTR`, `DOUT`, `TXLEN` and `TXBUF` (for the last two `FRM.BUILD`
and the wire commands, log entry 2). -/
def Obligations.RegistersHaveOnlyTheirWriters : Prop :=
  ∀ (i : Instr) (s : State), ∃ t : State, exec i s = .next t ∧
    (t.crc = s.crc ∨ i = .crcInit ∨ ∃ b, i = .crcUpd b) ∧
    (t.ptr = s.ptr ∨ (∃ a, i = .sel a) ∨ (∃ b, i = .wrb b) ∨ i = .rdb) ∧
    (t.dout = s.dout ∨ i = .rdb) ∧
    ((t.txLen = s.txLen ∧ ∀ k < 260, t.txbuf k = s.txbuf k) ∨ (∃ c, i = .frmBuild c) ∨
      i ∈ [.cmd07, .cmd0A, .cmd0B, .cmd27, .cmd28, .cmd29, .cmd39, .cmd40, .cmd41, .cmd43, .cmd44]) ∧
    t.params = s.params ∧ t.inputs = s.inputs

/-- R26, R24: the field registers are written only by a host write, by `CH.UNPACK` and by `DMR.UNPACK`, each its own. -/
def Obligations.FieldRegistersHaveOnlyTheirWriters : Prop :=
  ∀ (i : Instr) (s : State), ∃ t : State, exec i s = .next t ∧ ((∀ b, i ≠ .wrb b) →
    (i ≠ .chUnpack → t.rxMode = s.rxMode ∧ t.txMode = s.txMode ∧ t.rxFreq = s.rxFreq ∧ t.txFreq = s.txFreq ∧
      t.rxTone = s.rxTone ∧ t.txTone = s.txTone ∧ t.nameLen = s.nameLen ∧ ∀ k < 32, t.namech k = s.namech k) ∧
    (i ≠ .dmrUnpack → t.rxCc = s.rxCc ∧ t.txCc = s.txCc ∧ t.slot = s.slot ∧ t.callId = s.callId ∧ t.ownId = s.ownId ∧
      t.callFmt = s.callFmt) ∧
    (i ≠ .chUnpack → i ≠ .dmrUnpack → t.idx = s.idx))

/-- R13, R250, R267: every operation is defined in every state: a step always goes on, takes one input and keeps the
parameters. -/
def Obligations.EveryStepGoesOn : Prop :=
  ∀ s : State, ∃ t : State, step s = .next t ∧ t.inputs = s.inputs.tail ∧ t.params = s.params

/-! ### Invariants -/

/-- The invariant holds right after reset, for the instance's parameters and for every valid choice of them. -/
def Obligations.InvariantHoldsAtReset : Prop :=
  State.reset.Inv ∧ State.reset.TxHoldsFrame ∧
    ∀ (p : Params) (r : List Input), p.Valid → ({ State.reset with params := p, inputs := r } : State).Inv

/-- Every step, from every state that meets the invariant, whatever is presented, gives a state that meets it: memory
canonical and within the buffers, `ERR` a code the block raises (R241), the resynchronizer's counters in their bounds
(R115, R192 to R201). -/
def Obligations.EveryStepKeepsTheInvariant : Prop :=
  ∀ s t : State, s.Inv → step s = .next t → t.Inv

/-- What `TXBUF[0..TXLEN-1]` holds is always a frame the encoder made (D35, R40, R45, R136), so a parse of it succeeds
with a valid CRC. -/
def Obligations.TransmitBufferAlwaysHoldsAFrame : Prop :=
  (∀ s t : State, s.TxHoldsFrame → step s = .next t → t.TxHoldsFrame) ∧
  ∀ s : State, s.TxHoldsFrame → s.txLen ≠ 0 →
    ∃ (c : Byte) (p : List Byte), parse (s.txbufBytes s.txLen.toNat) = .frame c p true

/-- Two memories in canonical form that read the same everywhere are the same data. A property of the model's own
representation of the byte arrays (log entry 6); no rule of the spec speaks of it. -/
def Obligations.CanonicalMemoriesAreEqual : Prop :=
  ∀ m m' : List Host.Cell, Memory.wf m = true → Memory.wf m' = true → (∀ a, memRead m a = memRead m' a) → m = m'
end

