-- ==== Sys2Proof/Laws/Bits.lean ====
section
/-! SUPPORT. Bits of joined bytes: the fields of an operation word, and splitting and joining 16-bit and 32-bit registers. -/

namespace Sys2Proof.Machine

theorem getLsbD_join16 (hi lo : Byte) (i : Nat) :
    (join16 hi lo).getLsbD i = if i < 8 then lo.getLsbD i else hi.getLsbD (i - 8) := by
  have h := BitVec.getLsbD_append (x := hi) (y := lo) (i := i)
  exact h

@[simp] theorem hi16_join16 (hi lo : Byte) : hi16 (join16 hi lo) = hi := by
  apply BitVec.eq_of_getLsbD_eq; intro i hi
  simp [hi16, getLsbD_join16, hi]

@[simp] theorem lo16_join16 (hi lo : Byte) : lo16 (join16 hi lo) = lo := by
  apply BitVec.eq_of_getLsbD_eq; intro i hi
  simp [lo16, getLsbD_join16, hi]

@[simp] theorem join16_hi_lo (v : Half) : join16 (hi16 v) (lo16 v) = v := by
  apply BitVec.eq_of_getLsbD_eq; intro i hi
  rw [getLsbD_join16]
  split
  · simp [lo16, *]
  · simp [hi16, show i - 8 < 8 by omega, show 8 + (i - 8) = i by omega]

theorem getLsbD_join32 (a b c d : Byte) (i : Nat) :
    (join32 a b c d).getLsbD i =
      if i < 8 then d.getLsbD i else if i < 16 then c.getLsbD (i - 8)
      else if i < 24 then b.getLsbD (i - 16) else a.getLsbD (i - 24) := by
  have h1 := BitVec.getLsbD_append (x := a) (y := b ++ (c ++ d)) (i := i)
  have h2 := BitVec.getLsbD_append (x := b) (y := c ++ d) (i := i)
  have h3 := BitVec.getLsbD_append (x := c) (y := d) (i := i)
  have h : (join32 a b c d).getLsbD i = (a ++ (b ++ (c ++ d))).getLsbD i := rfl
  rw [h, h1, h2, h3]
  by_cases i8 : i < 8
  · rw [if_pos (by omega), if_pos (by omega), if_pos i8, if_pos i8]
  · by_cases i16 : i < 16
    · rw [if_pos (by omega), if_pos (by omega), if_neg i8, if_neg i8, if_pos i16]
    · by_cases i24 : i < 24
      · rw [if_pos (by omega), if_neg (by omega), if_neg i8, if_neg i16, if_pos i24]
      · rw [if_neg (by omega), if_neg i8, if_neg i16, if_neg i24]

@[simp] theorem byte32_join32_3 (a b c d : Byte) : byte32 (join32 a b c d) 3 = a := by
  apply BitVec.eq_of_getLsbD_eq; intro i hi
  simp only [byte32, BitVec.getLsbD_extractLsb', getLsbD_join32]
  rw [if_neg (by omega), if_neg (by omega), if_neg (by omega)]
  simp [hi]

@[simp] theorem byte32_join32_2 (a b c d : Byte) : byte32 (join32 a b c d) 2 = b := by
  apply BitVec.eq_of_getLsbD_eq; intro i hi
  simp only [byte32, BitVec.getLsbD_extractLsb', getLsbD_join32]
  rw [if_neg (by omega), if_neg (by omega), if_pos (by omega)]
  simp [hi]

@[simp] theorem byte32_join32_1 (a b c d : Byte) : byte32 (join32 a b c d) 1 = c := by
  apply BitVec.eq_of_getLsbD_eq; intro i hi
  simp only [byte32, BitVec.getLsbD_extractLsb', getLsbD_join32]
  rw [if_neg (by omega), if_pos (by omega)]
  simp [hi]

@[simp] theorem byte32_join32_0 (a b c d : Byte) : byte32 (join32 a b c d) 0 = d := by
  apply BitVec.eq_of_getLsbD_eq; intro i hi
  simp only [byte32, BitVec.getLsbD_extractLsb', getLsbD_join32]
  simp [hi]

@[simp] theorem join32_byte32 (v : Word) : join32 (byte32 v 3) (byte32 v 2) (byte32 v 1) (byte32 v 0) = v := by
  apply BitVec.eq_of_getLsbD_eq; intro i hi
  rw [getLsbD_join32]
  simp only [byte32, BitVec.getLsbD_extractLsb']
  split
  · simp [*]
  · split
    · simp [show i - 8 < 8 by omega, show 8 + (i - 8) = i by omega]
    · split
      · simp [show i - 16 < 8 by omega, show 16 + (i - 16) = i by omega]
      · simp [show i - 24 < 8 by omega, show 24 + (i - 24) = i by omega]

/-- The four bytes joined from the left are the same register. -/
theorem append4_eq_join32 (a b c d : Byte) : a ++ b ++ c ++ d = join32 a b c d := by
  apply BitVec.eq_of_getLsbD_eq; intro i hi
  have h := getLsbD_join32 a b c d i
  rw [h]
  have h1 := BitVec.getLsbD_append (x := a ++ b ++ c) (y := d) (i := i)
  have h2 := BitVec.getLsbD_append (x := a ++ b) (y := c) (i := i - 8)
  have h3 := BitVec.getLsbD_append (x := a) (y := b) (i := i - 8 - 8)
  rw [h1, h2, h3]
  by_cases i8 : i < 8
  · rw [if_pos i8, if_pos i8]
  · by_cases i16 : i < 16
    · rw [if_neg i8, if_neg i8, if_pos (by omega), if_pos i16]
    · by_cases i24 : i < 24
      · rw [if_neg i8, if_neg i8, if_neg (by omega), if_neg i16, if_pos (by omega), if_pos i24]; congr 1
      · rw [if_neg i8, if_neg i8, if_neg (by omega), if_neg i16, if_neg (by omega), if_neg i24]; congr 1

theorem append2_eq_join16 (a b : Byte) : a ++ b = join16 a b := rfl

/-- The high and the low fields of a word joined from two. -/
theorem opcOf_append (o : BitVec 4) (a : BitVec 12) : opcOf (o ++ a) = o.toNat := by
  have h : (o ++ a : Half).extractLsb' 12 4 = o := by
    apply BitVec.eq_of_getLsbD_eq; intro i hi
    have h := BitVec.getLsbD_append (x := o) (y := a) (i := 12 + i)
    rw [BitVec.getLsbD_extractLsb']
    refine (congrArg _ h).trans ?_
    simp [hi]
  simp only [opcOf, h]

theorem argOf_append (o : BitVec 4) (a : BitVec 12) : argOf (o ++ a) = a := by
  apply BitVec.eq_of_getLsbD_eq; intro i hi
  have h := BitVec.getLsbD_append (x := o) (y := a) (i := 0 + i)
  rw [argOf, BitVec.getLsbD_extractLsb']
  refine (congrArg _ h).trans ?_
  simp [hi]

theorem argByte_append (o p : BitVec 4) (b : Byte) : argByte (o ++ (p ++ b)) = b := by
  apply BitVec.eq_of_getLsbD_eq; intro i hi
  have h := BitVec.getLsbD_append (x := o) (y := p ++ b) (i := 0 + i)
  rw [argByte, BitVec.getLsbD_extractLsb']
  refine (congrArg _ h).trans ?_
  have h := BitVec.getLsbD_append (x := p) (y := b) (i := 0 + i)
  rw [h]
  simp [hi]
  intro hh; omega

theorem argHigh_append (o p : BitVec 4) (b : Byte) : argHigh (o ++ (p ++ b)) = p := by
  apply BitVec.eq_of_getLsbD_eq; intro i hi
  have h := BitVec.getLsbD_append (x := o) (y := p ++ b) (i := 8 + i)
  rw [argHigh, BitVec.getLsbD_extractLsb']
  refine (congrArg _ h).trans ?_
  have h := BitVec.getLsbD_append (x := p) (y := b) (i := 8 + i)
  rw [h]
  simp [hi]
  intro hh; omega

end Sys2Proof.Machine
end

