-- ==== Sys2Proof/Laws/Crc.lean ====
section
/-! SUPPORT. The CRC functions: running a CRC over two strings in turn, and the shift register's linearity. -/

namespace Sys2Proof.Machine

@[simp] theorem crcFrom_nil (c : Half) : crcFrom c [] = c := rfl

@[simp] theorem crcFrom_cons (c : Half) (b : Byte) (bs : List Byte) : crcFrom c (b :: bs) = crcFrom (crcStep c b) bs := rfl

theorem crcFrom_append (c : Half) (xs ys : List Byte) : crcFrom c (xs ++ ys) = crcFrom (crcFrom c xs) ys := by
  induction xs generalizing c with
  | nil => rfl
  | cons x xs ih => exact ih _

theorem crc16_append (xs ys : List Byte) : crc16 (xs ++ ys) = crcFrom (crc16 xs) ys := crcFrom_append _ _ _

theorem crcShifts_add (m n : Nat) (c : Half) : crcShifts (m + n) c = crcShifts n (crcShifts m c) := by
  induction m generalizing c with
  | zero => simp [crcShifts]
  | succ m ih => rw [Nat.add_right_comm]; exact ih _

/-- A shift distributes over XOR. -/
theorem crcShift_xor (c d : Half) : crcShift (c ^^^ d) = crcShift c ^^^ crcShift d := by
  unfold crcShift
  rw [BitVec.getLsbD_xor, BitVec.shiftLeft_xor_distrib]
  cases c.getLsbD 15 <;> cases d.getLsbD 15 <;> simp
  · rw [BitVec.xor_assoc]
  · rw [BitVec.xor_assoc, BitVec.xor_assoc, BitVec.xor_comm crcPoly]
  · rw [show c <<< 1 ^^^ crcPoly ^^^ (d <<< 1 ^^^ crcPoly) = (c <<< 1 ^^^ d <<< 1) ^^^ (crcPoly ^^^ crcPoly) by ac_rfl]
    simp

theorem crcShifts_xor (n : Nat) (c d : Half) : crcShifts n (c ^^^ d) = crcShifts n c ^^^ crcShifts n d := by
  induction n generalizing c d with
  | zero => rfl
  | succ n ih => simp only [crcShifts, crcShift_xor, ih]

/-- Only the zero register shifts to zero. -/
theorem crcShift_eq_zero (c : Half) : crcShift c = 0 ↔ c = 0 := by
  constructor
  · intro h
    unfold crcShift at h
    split at h
    · have h0 := congrArg (fun v => v.getLsbD 0) h
      simp [crcPoly] at h0
    · next hc =>
      apply BitVec.eq_of_getLsbD_eq
      intro i hi
      by_cases h15 : i = 15
      · subst h15; simpa using hc
      · have hi' := congrArg (fun v => v.getLsbD (i + 1)) h
        simp only [BitVec.getLsbD_shiftLeft] at hi'
        simpa [show i + 1 < 16 by omega] using hi'
  · rintro rfl; rfl

theorem crcShifts_eq_zero (n : Nat) (c : Half) : crcShifts n c = 0 ↔ c = 0 := by
  induction n generalizing c with
  | zero => rfl
  | succ n ih => simp only [crcShifts, ih, crcShift_eq_zero]

end Sys2Proof.Machine
end

