-- ==== Sys2Proof/Laws/Memory.lean ====
section
/-! SUPPORT. The byte memory: read after write, what a stored string reads as, and that every operation keeps the canonical form. -/

namespace Sys2Proof.Machine

@[simp] theorem memRead_nil (a : Nat) : memRead [] a = 0 := rfl

@[simp] theorem memWriteBytes_nil (m : List Host.Cell) (a : Nat) : memWriteBytes m a [] = m := rfl

@[simp] theorem memReadBytes_zero (m : List Host.Cell) (a : Nat) : memReadBytes m a 0 = [] := rfl

theorem memReadBytes_succ (m : List Host.Cell) (a n : Nat) :
    memReadBytes m a (n + 1) = memRead m a :: memReadBytes m (a + 1) n := rfl

theorem memRead_erase (m : List Host.Cell) (a c : Nat) :
    memRead (memErase m a) c = if c = a then 0 else memRead m c := by
  induction m with
  | nil => simp [memErase]
  | cons x m ih =>
    obtain ⟨b, v⟩ := x
    simp only [memErase]
    split
    · next h =>
      rw [ih]; simp only [memRead]
      by_cases hc : c = a
      · simp [hc]
      · rw [if_neg hc, if_neg hc, if_neg (by omega)]
    · next h => simp only [memRead, ih]; split <;> split <;> simp_all

theorem memRead_insert (m : List Host.Cell) (a c : Nat) (v : Byte) (h : ∀ x ∈ m, x.1 ≠ a) :
    memRead (memInsert m a v) c = if c = a then v else memRead m c := by
  induction m with
  | nil => simp [memInsert, memRead, memDefault, eq_comm]
  | cons x m ih =>
    obtain ⟨b, w⟩ := x
    have hb : b ≠ a := h (b, w) (by simp)
    have ih := ih (fun y hy => h y (by simp [hy]))
    simp only [memInsert]
    split
    · simp [memRead, eq_comm]
    · simp only [memRead, ih]; split <;> split <;> simp_all

theorem memErase_fst_ne (m : List Host.Cell) (a : Nat) : ∀ x ∈ memErase m a, x.1 ≠ a := by
  induction m with
  | nil => simp [memErase]
  | cons x m ih =>
    obtain ⟨b, v⟩ := x
    simp only [memErase]
    split
    · exact ih
    · next h => simpa [h] using ih

/-- A read after a write: the byte written at its address, and every other address as before, in every memory. -/
theorem memRead_write (m : List Host.Cell) (a c : Nat) (v : Byte) :
    memRead (memWrite m a v) c = if c = a then v else memRead m c := by
  unfold memWrite
  split
  · next h => rw [memRead_erase, h]; rfl
  · rw [memRead_insert _ _ _ _ (memErase_fst_ne m a), memRead_erase]; split <;> rfl

/-- What a string stored at `a` reads as: its bytes, and every address outside it as before. -/
theorem memRead_writeBytes (m : List Host.Cell) (a : Nat) (vs : List Byte) (c : Nat) :
    memRead (memWriteBytes m a vs) c =
      if a ≤ c ∧ c < a + vs.length then vs.getD (c - a) 0 else memRead m c := by
  induction vs generalizing m a with
  | nil => rw [memWriteBytes_nil, if_neg (by simp only [List.length_nil]; omega)]
  | cons v vs ih =>
    simp only [memWriteBytes, ih, memRead_write, List.length_cons]
    by_cases h : c = a
    · subst h; simp
    · by_cases h1 : a + 1 ≤ c ∧ c < a + 1 + vs.length
      · rw [if_pos h1, if_pos (by omega)]
        have : c - a = (c - (a + 1)) + 1 := by omega
        rw [this]; simp
      · rw [if_neg h1, if_neg h, if_neg (by omega)]

theorem memRead_writeBytes_in (m : List Host.Cell) (a i : Nat) (vs : List Byte) (h : i < vs.length) :
    memRead (memWriteBytes m a vs) (a + i) = vs.getD i 0 := by
  rw [memRead_writeBytes, if_pos (by omega)]; simp

theorem memRead_writeBytes_out (m : List Host.Cell) (a c : Nat) (vs : List Byte) (h : c < a ∨ a + vs.length ≤ c) :
    memRead (memWriteBytes m a vs) c = memRead m c := by
  rw [memRead_writeBytes, if_neg (by omega)]

@[simp] theorem memReadBytes_length (m : List Host.Cell) (a n : Nat) : (memReadBytes m a n).length = n := by
  induction n generalizing a with
  | zero => rfl
  | succ n ih => simp [memReadBytes, ih]

theorem memReadBytes_getD (m : List Host.Cell) (a n i : Nat) (h : i < n) :
    (memReadBytes m a n).getD i 0 = memRead m (a + i) := by
  induction n generalizing a i with
  | zero => omega
  | succ n ih =>
    cases i with
    | zero => simp [memReadBytes]
    | succ i =>
      simp only [memReadBytes, List.getD_cons_succ]
      rw [ih (a + 1) i (by omega)]
      congr 1; omega

theorem memReadBytes_getElem (m : List Host.Cell) (a n i : Nat) (h : i < (memReadBytes m a n).length) :
    (memReadBytes m a n)[i] = memRead m (a + i) := by
  have h' : i < n := by simpa using h
  rw [← memReadBytes_getD m a n i h', List.getD_eq_getElem]

/-- Two memories that read the same on `n` addresses give the same string there. -/
theorem memReadBytes_congr (m m' : List Host.Cell) (a n : Nat) (h : ∀ i < n, memRead m (a + i) = memRead m' (a + i)) :
    memReadBytes m a n = memReadBytes m' a n := by
  apply List.ext_getElem (by simp)
  intro i h1 h2
  rw [memReadBytes_getElem, memReadBytes_getElem]
  exact h i (by simpa using h1)

/-- A stored string is read back. -/
theorem memReadBytes_writeBytes_self (m : List Host.Cell) (a : Nat) (vs : List Byte) :
    memReadBytes (memWriteBytes m a vs) a vs.length = vs := by
  apply List.ext_getElem (by simp)
  intro i h1 h2
  rw [memReadBytes_getElem, memRead_writeBytes_in _ _ _ _ h2, List.getD_eq_getElem]

theorem memReadBytes_writeBytes_out (m : List Host.Cell) (a b n : Nat) (vs : List Byte)
    (h : b + n ≤ a ∨ a + vs.length ≤ b) :
    memReadBytes (memWriteBytes m a vs) b n = memReadBytes m b n :=
  memReadBytes_congr _ _ _ _ fun i hi => memRead_writeBytes_out _ _ _ _ (by omega)

theorem memReadBytes_append (m : List Host.Cell) (a n k : Nat) :
    memReadBytes m a (n + k) = memReadBytes m a n ++ memReadBytes m (a + n) k := by
  induction n generalizing a with
  | zero => simp
  | succ n ih =>
    rw [show n + 1 + k = (n + k) + 1 by omega, memReadBytes_succ, memReadBytes_succ, ih]
    simp [Nat.add_assoc, Nat.add_comm 1]

/-! ### The canonical form -/

theorem memWfFrom_mono {lo lo' : Nat} {m : List Host.Cell} (h : memWfFrom lo m = true) (hl : lo' ≤ lo) :
    memWfFrom lo' m = true := by
  cases m with
  | nil => rfl
  | cons x m =>
    obtain ⟨a, v⟩ := x
    simp only [memWfFrom, Bool.and_eq_true, decide_eq_true_eq] at h ⊢
    exact ⟨⟨by omega, h.1.2⟩, h.2⟩

theorem memWfFrom_erase {lo a : Nat} {m : List Host.Cell} (h : memWfFrom lo m = true) :
    memWfFrom lo (memErase m a) = true := by
  induction m generalizing lo with
  | nil => rfl
  | cons x m ih =>
    obtain ⟨b, v⟩ := x
    simp only [memWfFrom, Bool.and_eq_true, decide_eq_true_eq] at h
    simp only [memErase]
    split
    · exact memWfFrom_mono (ih h.2) (by omega)
    · simp only [memWfFrom, Bool.and_eq_true, decide_eq_true_eq]
      exact ⟨h.1, ih h.2⟩

theorem memWfFrom_insert {lo a : Nat} {v : Byte} {m : List Host.Cell} (h : memWfFrom lo m = true) (hl : lo ≤ a)
    (hv : v ≠ memDefault) (hne : ∀ x ∈ m, x.1 ≠ a) : memWfFrom lo (memInsert m a v) = true := by
  induction m generalizing lo with
  | nil => simp [memInsert, memWfFrom, hl, hv]
  | cons x m ih =>
    obtain ⟨b, w⟩ := x
    simp only [memWfFrom, Bool.and_eq_true, decide_eq_true_eq] at h
    have hb : b ≠ a := hne (b, w) (by simp)
    simp only [memInsert]
    split
    · next hab =>
      simp only [memWfFrom, Bool.and_eq_true, decide_eq_true_eq]
      exact ⟨⟨hl, by simpa using hv⟩, ⟨by omega, h.1.2⟩, h.2⟩
    · next hab =>
      simp only [memWfFrom, Bool.and_eq_true, decide_eq_true_eq]
      exact ⟨h.1, ih h.2 (by omega) (fun y hy => hne y (by simp [hy]))⟩

/-- A write keeps the canonical form. -/
theorem Memory.wf_write {m : List Host.Cell} (h : Memory.wf m = true) (a : Nat) (v : Byte) :
    Memory.wf (memWrite m a v) = true := by
  unfold Memory.wf at *
  unfold memWrite
  split
  · exact memWfFrom_erase h
  · next hv => exact memWfFrom_insert (memWfFrom_erase h) (Nat.zero_le a) hv (memErase_fst_ne m a)

/-- Storing a string keeps the canonical form. -/
theorem Memory.wf_writeBytes {m : List Host.Cell} (h : Memory.wf m = true) (a : Nat) (vs : List Byte) :
    Memory.wf (memWriteBytes m a vs) = true := by
  induction vs generalizing m a with
  | nil => exact h
  | cons v vs ih => exact ih (Memory.wf_write h a v) (a + 1)

theorem Memory.wf_reset : Memory.wf State.reset.mem = true := rfl

theorem mem_of_mem_erase {m : List Host.Cell} {a : Nat} {c : Host.Cell} (h : c ∈ memErase m a) : c ∈ m := by
  induction m with
  | nil => simp [memErase] at h
  | cons x m ih =>
    obtain ⟨b, v⟩ := x
    simp only [memErase] at h
    split at h
    · exact List.mem_cons_of_mem _ (ih h)
    · rcases List.mem_cons.1 h with h | h
      · simp [h]
      · exact List.mem_cons_of_mem _ (ih h)

theorem mem_of_mem_insert {m : List Host.Cell} {a : Nat} {v : Byte} {c : Host.Cell} (h : c ∈ memInsert m a v) :
    c = (a, v) ∨ c ∈ m := by
  induction m with
  | nil => simpa [memInsert] using h
  | cons x m ih =>
    obtain ⟨b, w⟩ := x
    simp only [memInsert] at h
    split at h
    · simpa using h
    · rcases List.mem_cons.1 h with h | h
      · simp [h]
      · rcases ih h with h | h
        · exact .inl h
        · exact .inr (List.mem_cons_of_mem _ h)

/-- A write lists no address but its own beside those listed before. -/
theorem mem_of_mem_write {m : List Host.Cell} {a : Nat} {v : Byte} {c : Host.Cell} (h : c ∈ memWrite m a v) :
    c.1 = a ∨ c ∈ m := by
  unfold memWrite at h
  split at h
  · exact .inr (mem_of_mem_erase h)
  · rcases mem_of_mem_insert h with h | h
    · exact .inl (by rw [h])
    · exact .inr (mem_of_mem_erase h)

/-- Storing a string lists no address outside it beside those listed before. -/
theorem mem_of_mem_writeBytes {m : List Host.Cell} {a : Nat} {vs : List Byte} {c : Host.Cell}
    (h : c ∈ memWriteBytes m a vs) : (a ≤ c.1 ∧ c.1 < a + vs.length) ∨ c ∈ m := by
  induction vs generalizing m a with
  | nil => exact .inr h
  | cons v vs ih =>
    rcases ih h with h | h
    · exact .inl ⟨by omega, by simp only [List.length_cons]; omega⟩
    · rcases mem_of_mem_write h with h | h
      · exact .inl ⟨by omega, by simp only [List.length_cons]; omega⟩
      · exact .inr h

/-- The lanes of the four byte arrays, as ranges. -/
theorem bufferLane_iff (a : Nat) : bufferLane a = true ↔
    (0x020 ≤ a ∧ a < 0x040) ∨ (0x100 ≤ a ∧ a < 0x1FC) ∨ (0x200 ≤ a ∧ a < 0x304) ∨ (0x400 ≤ a ∧ a < 0x600) := by
  simp only [bufferLane, Bool.or_eq_true, Bool.and_eq_true, decide_eq_true_eq, or_assoc]
  exact Iff.rfl

end Sys2Proof.Machine
end

