-- ==== Sys2Proof/Laws/State.lean ====
section
/-! SUPPORT. One lemma per field of State per named update, true by rfl: no later proof unfolds a record update. -/

namespace Sys2Proof.Machine

/-! ### respond -/

@[simp] theorem State.respond_params (s : State) (v : Byte) : (s.respond v).params = s.params := rfl
@[simp] theorem State.respond_inputs (s : State) (v : Byte) : (s.respond v).inputs = s.inputs := rfl
@[simp] theorem State.respond_resp (s : State) (v : Byte) : (s.respond v).resp = v := rfl
@[simp] theorem State.respond_freeCtr (s : State) (v : Byte) : (s.respond v).freeCtr = s.freeCtr := rfl
@[simp] theorem State.respond_idx (s : State) (v : Byte) : (s.respond v).idx = s.idx := rfl
@[simp] theorem State.respond_rxMode (s : State) (v : Byte) : (s.respond v).rxMode = s.rxMode := rfl
@[simp] theorem State.respond_txMode (s : State) (v : Byte) : (s.respond v).txMode = s.txMode := rfl
@[simp] theorem State.respond_rxFreq (s : State) (v : Byte) : (s.respond v).rxFreq = s.rxFreq := rfl
@[simp] theorem State.respond_txFreq (s : State) (v : Byte) : (s.respond v).txFreq = s.txFreq := rfl
@[simp] theorem State.respond_rxTone (s : State) (v : Byte) : (s.respond v).rxTone = s.rxTone := rfl
@[simp] theorem State.respond_txTone (s : State) (v : Byte) : (s.respond v).txTone = s.txTone := rfl
@[simp] theorem State.respond_nameLen (s : State) (v : Byte) : (s.respond v).nameLen = s.nameLen := rfl
@[simp] theorem State.respond_rxCc (s : State) (v : Byte) : (s.respond v).rxCc = s.rxCc := rfl
@[simp] theorem State.respond_txCc (s : State) (v : Byte) : (s.respond v).txCc = s.txCc := rfl
@[simp] theorem State.respond_slot (s : State) (v : Byte) : (s.respond v).slot = s.slot := rfl
@[simp] theorem State.respond_callId (s : State) (v : Byte) : (s.respond v).callId = s.callId := rfl
@[simp] theorem State.respond_ownId (s : State) (v : Byte) : (s.respond v).ownId = s.ownId := rfl
@[simp] theorem State.respond_callFmt (s : State) (v : Byte) : (s.respond v).callFmt = s.callFmt := rfl
@[simp] theorem State.respond_crc (s : State) (v : Byte) : (s.respond v).crc = s.crc := rfl
@[simp] theorem State.respond_ptr (s : State) (v : Byte) : (s.respond v).ptr = s.ptr := rfl
@[simp] theorem State.respond_dout (s : State) (v : Byte) : (s.respond v).dout = s.dout := rfl
@[simp] theorem State.respond_crcOk (s : State) (v : Byte) : (s.respond v).crcOk = s.crcOk := rfl
@[simp] theorem State.respond_ill (s : State) (v : Byte) : (s.respond v).ill = s.ill := rfl
@[simp] theorem State.respond_noTerm (s : State) (v : Byte) : (s.respond v).noTerm = s.noTerm := rfl
@[simp] theorem State.respond_rstate (s : State) (v : Byte) : (s.respond v).rstate = s.rstate := rfl
@[simp] theorem State.respond_win (s : State) (v : Byte) : (s.respond v).win = s.win := rfl
@[simp] theorem State.respond_scanCnt (s : State) (v : Byte) : (s.respond v).scanCnt = s.scanCnt := rfl
@[simp] theorem State.respond_skip (s : State) (v : Byte) : (s.respond v).skip = s.skip := rfl
@[simp] theorem State.respond_lenR (s : State) (v : Byte) : (s.respond v).lenR = s.lenR := rfl
@[simp] theorem State.respond_bodyCnt (s : State) (v : Byte) : (s.respond v).bodyCnt = s.bodyCnt := rfl
@[simp] theorem State.respond_rxLen (s : State) (v : Byte) : (s.respond v).rxLen = s.rxLen := rfl
@[simp] theorem State.respond_txLen (s : State) (v : Byte) : (s.respond v).txLen = s.txLen := rfl
@[simp] theorem State.respond_cmdR (s : State) (v : Byte) : (s.respond v).cmdR = s.cmdR := rfl
@[simp] theorem State.respond_pLen (s : State) (v : Byte) : (s.respond v).pLen = s.pLen := rfl
@[simp] theorem State.respond_err (s : State) (v : Byte) : (s.respond v).err = s.err := rfl
@[simp] theorem State.respond_mem (s : State) (v : Byte) : (s.respond v).mem = s.mem := rfl

/-! ### report -/

@[simp] theorem State.report_params (s : State) (c : ResultCode) : (s.report c).params = s.params := rfl
@[simp] theorem State.report_inputs (s : State) (c : ResultCode) : (s.report c).inputs = s.inputs := rfl
@[simp] theorem State.report_resp (s : State) (c : ResultCode) : (s.report c).resp = s.resp := rfl
@[simp] theorem State.report_freeCtr (s : State) (c : ResultCode) : (s.report c).freeCtr = s.freeCtr := rfl
@[simp] theorem State.report_idx (s : State) (c : ResultCode) : (s.report c).idx = s.idx := rfl
@[simp] theorem State.report_rxMode (s : State) (c : ResultCode) : (s.report c).rxMode = s.rxMode := rfl
@[simp] theorem State.report_txMode (s : State) (c : ResultCode) : (s.report c).txMode = s.txMode := rfl
@[simp] theorem State.report_rxFreq (s : State) (c : ResultCode) : (s.report c).rxFreq = s.rxFreq := rfl
@[simp] theorem State.report_txFreq (s : State) (c : ResultCode) : (s.report c).txFreq = s.txFreq := rfl
@[simp] theorem State.report_rxTone (s : State) (c : ResultCode) : (s.report c).rxTone = s.rxTone := rfl
@[simp] theorem State.report_txTone (s : State) (c : ResultCode) : (s.report c).txTone = s.txTone := rfl
@[simp] theorem State.report_nameLen (s : State) (c : ResultCode) : (s.report c).nameLen = s.nameLen := rfl
@[simp] theorem State.report_rxCc (s : State) (c : ResultCode) : (s.report c).rxCc = s.rxCc := rfl
@[simp] theorem State.report_txCc (s : State) (c : ResultCode) : (s.report c).txCc = s.txCc := rfl
@[simp] theorem State.report_slot (s : State) (c : ResultCode) : (s.report c).slot = s.slot := rfl
@[simp] theorem State.report_callId (s : State) (c : ResultCode) : (s.report c).callId = s.callId := rfl
@[simp] theorem State.report_ownId (s : State) (c : ResultCode) : (s.report c).ownId = s.ownId := rfl
@[simp] theorem State.report_callFmt (s : State) (c : ResultCode) : (s.report c).callFmt = s.callFmt := rfl
@[simp] theorem State.report_crc (s : State) (c : ResultCode) : (s.report c).crc = s.crc := rfl
@[simp] theorem State.report_ptr (s : State) (c : ResultCode) : (s.report c).ptr = s.ptr := rfl
@[simp] theorem State.report_dout (s : State) (c : ResultCode) : (s.report c).dout = s.dout := rfl
@[simp] theorem State.report_crcOk (s : State) (c : ResultCode) : (s.report c).crcOk = s.crcOk := rfl
@[simp] theorem State.report_ill (s : State) (c : ResultCode) : (s.report c).ill = s.ill := rfl
@[simp] theorem State.report_noTerm (s : State) (c : ResultCode) : (s.report c).noTerm = s.noTerm := rfl
@[simp] theorem State.report_rstate (s : State) (c : ResultCode) : (s.report c).rstate = s.rstate := rfl
@[simp] theorem State.report_win (s : State) (c : ResultCode) : (s.report c).win = s.win := rfl
@[simp] theorem State.report_scanCnt (s : State) (c : ResultCode) : (s.report c).scanCnt = s.scanCnt := rfl
@[simp] theorem State.report_skip (s : State) (c : ResultCode) : (s.report c).skip = s.skip := rfl
@[simp] theorem State.report_lenR (s : State) (c : ResultCode) : (s.report c).lenR = s.lenR := rfl
@[simp] theorem State.report_bodyCnt (s : State) (c : ResultCode) : (s.report c).bodyCnt = s.bodyCnt := rfl
@[simp] theorem State.report_rxLen (s : State) (c : ResultCode) : (s.report c).rxLen = s.rxLen := rfl
@[simp] theorem State.report_txLen (s : State) (c : ResultCode) : (s.report c).txLen = s.txLen := rfl
@[simp] theorem State.report_cmdR (s : State) (c : ResultCode) : (s.report c).cmdR = s.cmdR := rfl
@[simp] theorem State.report_pLen (s : State) (c : ResultCode) : (s.report c).pLen = s.pLen := rfl
@[simp] theorem State.report_err (s : State) (c : ResultCode) : (s.report c).err = c := rfl
@[simp] theorem State.report_mem (s : State) (c : ResultCode) : (s.report c).mem = s.mem := rfl

/-! ### store -/

@[simp] theorem State.store_params (s : State) (a : Nat) (vs : List Byte) : (s.store a vs).params = s.params := rfl
@[simp] theorem State.store_inputs (s : State) (a : Nat) (vs : List Byte) : (s.store a vs).inputs = s.inputs := rfl
@[simp] theorem State.store_resp (s : State) (a : Nat) (vs : List Byte) : (s.store a vs).resp = s.resp := rfl
@[simp] theorem State.store_freeCtr (s : State) (a : Nat) (vs : List Byte) : (s.store a vs).freeCtr = s.freeCtr := rfl
@[simp] theorem State.store_idx (s : State) (a : Nat) (vs : List Byte) : (s.store a vs).idx = s.idx := rfl
@[simp] theorem State.store_rxMode (s : State) (a : Nat) (vs : List Byte) : (s.store a vs).rxMode = s.rxMode := rfl
@[simp] theorem State.store_txMode (s : State) (a : Nat) (vs : List Byte) : (s.store a vs).txMode = s.txMode := rfl
@[simp] theorem State.store_rxFreq (s : State) (a : Nat) (vs : List Byte) : (s.store a vs).rxFreq = s.rxFreq := rfl
@[simp] theorem State.store_txFreq (s : State) (a : Nat) (vs : List Byte) : (s.store a vs).txFreq = s.txFreq := rfl
@[simp] theorem State.store_rxTone (s : State) (a : Nat) (vs : List Byte) : (s.store a vs).rxTone = s.rxTone := rfl
@[simp] theorem State.store_txTone (s : State) (a : Nat) (vs : List Byte) : (s.store a vs).txTone = s.txTone := rfl
@[simp] theorem State.store_nameLen (s : State) (a : Nat) (vs : List Byte) : (s.store a vs).nameLen = s.nameLen := rfl
@[simp] theorem State.store_rxCc (s : State) (a : Nat) (vs : List Byte) : (s.store a vs).rxCc = s.rxCc := rfl
@[simp] theorem State.store_txCc (s : State) (a : Nat) (vs : List Byte) : (s.store a vs).txCc = s.txCc := rfl
@[simp] theorem State.store_slot (s : State) (a : Nat) (vs : List Byte) : (s.store a vs).slot = s.slot := rfl
@[simp] theorem State.store_callId (s : State) (a : Nat) (vs : List Byte) : (s.store a vs).callId = s.callId := rfl
@[simp] theorem State.store_ownId (s : State) (a : Nat) (vs : List Byte) : (s.store a vs).ownId = s.ownId := rfl
@[simp] theorem State.store_callFmt (s : State) (a : Nat) (vs : List Byte) : (s.store a vs).callFmt = s.callFmt := rfl
@[simp] theorem State.store_crc (s : State) (a : Nat) (vs : List Byte) : (s.store a vs).crc = s.crc := rfl
@[simp] theorem State.store_ptr (s : State) (a : Nat) (vs : List Byte) : (s.store a vs).ptr = s.ptr := rfl
@[simp] theorem State.store_dout (s : State) (a : Nat) (vs : List Byte) : (s.store a vs).dout = s.dout := rfl
@[simp] theorem State.store_crcOk (s : State) (a : Nat) (vs : List Byte) : (s.store a vs).crcOk = s.crcOk := rfl
@[simp] theorem State.store_ill (s : State) (a : Nat) (vs : List Byte) : (s.store a vs).ill = s.ill := rfl
@[simp] theorem State.store_noTerm (s : State) (a : Nat) (vs : List Byte) : (s.store a vs).noTerm = s.noTerm := rfl
@[simp] theorem State.store_rstate (s : State) (a : Nat) (vs : List Byte) : (s.store a vs).rstate = s.rstate := rfl
@[simp] theorem State.store_win (s : State) (a : Nat) (vs : List Byte) : (s.store a vs).win = s.win := rfl
@[simp] theorem State.store_scanCnt (s : State) (a : Nat) (vs : List Byte) : (s.store a vs).scanCnt = s.scanCnt := rfl
@[simp] theorem State.store_skip (s : State) (a : Nat) (vs : List Byte) : (s.store a vs).skip = s.skip := rfl
@[simp] theorem State.store_lenR (s : State) (a : Nat) (vs : List Byte) : (s.store a vs).lenR = s.lenR := rfl
@[simp] theorem State.store_bodyCnt (s : State) (a : Nat) (vs : List Byte) : (s.store a vs).bodyCnt = s.bodyCnt := rfl
@[simp] theorem State.store_rxLen (s : State) (a : Nat) (vs : List Byte) : (s.store a vs).rxLen = s.rxLen := rfl
@[simp] theorem State.store_txLen (s : State) (a : Nat) (vs : List Byte) : (s.store a vs).txLen = s.txLen := rfl
@[simp] theorem State.store_cmdR (s : State) (a : Nat) (vs : List Byte) : (s.store a vs).cmdR = s.cmdR := rfl
@[simp] theorem State.store_pLen (s : State) (a : Nat) (vs : List Byte) : (s.store a vs).pLen = s.pLen := rfl
@[simp] theorem State.store_err (s : State) (a : Nat) (vs : List Byte) : (s.store a vs).err = s.err := rfl
@[simp] theorem State.store_mem (s : State) (a : Nat) (vs : List Byte) : (s.store a vs).mem = memWriteBytes s.mem a vs := rfl

/-! ### advancePtr -/

@[simp] theorem State.advancePtr_params (s : State) : (s.advancePtr).params = s.params := rfl
@[simp] theorem State.advancePtr_inputs (s : State) : (s.advancePtr).inputs = s.inputs := rfl
@[simp] theorem State.advancePtr_resp (s : State) : (s.advancePtr).resp = s.resp := rfl
@[simp] theorem State.advancePtr_freeCtr (s : State) : (s.advancePtr).freeCtr = s.freeCtr := rfl
@[simp] theorem State.advancePtr_idx (s : State) : (s.advancePtr).idx = s.idx := rfl
@[simp] theorem State.advancePtr_rxMode (s : State) : (s.advancePtr).rxMode = s.rxMode := rfl
@[simp] theorem State.advancePtr_txMode (s : State) : (s.advancePtr).txMode = s.txMode := rfl
@[simp] theorem State.advancePtr_rxFreq (s : State) : (s.advancePtr).rxFreq = s.rxFreq := rfl
@[simp] theorem State.advancePtr_txFreq (s : State) : (s.advancePtr).txFreq = s.txFreq := rfl
@[simp] theorem State.advancePtr_rxTone (s : State) : (s.advancePtr).rxTone = s.rxTone := rfl
@[simp] theorem State.advancePtr_txTone (s : State) : (s.advancePtr).txTone = s.txTone := rfl
@[simp] theorem State.advancePtr_nameLen (s : State) : (s.advancePtr).nameLen = s.nameLen := rfl
@[simp] theorem State.advancePtr_rxCc (s : State) : (s.advancePtr).rxCc = s.rxCc := rfl
@[simp] theorem State.advancePtr_txCc (s : State) : (s.advancePtr).txCc = s.txCc := rfl
@[simp] theorem State.advancePtr_slot (s : State) : (s.advancePtr).slot = s.slot := rfl
@[simp] theorem State.advancePtr_callId (s : State) : (s.advancePtr).callId = s.callId := rfl
@[simp] theorem State.advancePtr_ownId (s : State) : (s.advancePtr).ownId = s.ownId := rfl
@[simp] theorem State.advancePtr_callFmt (s : State) : (s.advancePtr).callFmt = s.callFmt := rfl
@[simp] theorem State.advancePtr_crc (s : State) : (s.advancePtr).crc = s.crc := rfl
@[simp] theorem State.advancePtr_ptr (s : State) : (s.advancePtr).ptr = s.ptr + 1 := rfl
@[simp] theorem State.advancePtr_dout (s : State) : (s.advancePtr).dout = s.dout := rfl
@[simp] theorem State.advancePtr_crcOk (s : State) : (s.advancePtr).crcOk = s.crcOk := rfl
@[simp] theorem State.advancePtr_ill (s : State) : (s.advancePtr).ill = s.ill := rfl
@[simp] theorem State.advancePtr_noTerm (s : State) : (s.advancePtr).noTerm = s.noTerm := rfl
@[simp] theorem State.advancePtr_rstate (s : State) : (s.advancePtr).rstate = s.rstate := rfl
@[simp] theorem State.advancePtr_win (s : State) : (s.advancePtr).win = s.win := rfl
@[simp] theorem State.advancePtr_scanCnt (s : State) : (s.advancePtr).scanCnt = s.scanCnt := rfl
@[simp] theorem State.advancePtr_skip (s : State) : (s.advancePtr).skip = s.skip := rfl
@[simp] theorem State.advancePtr_lenR (s : State) : (s.advancePtr).lenR = s.lenR := rfl
@[simp] theorem State.advancePtr_bodyCnt (s : State) : (s.advancePtr).bodyCnt = s.bodyCnt := rfl
@[simp] theorem State.advancePtr_rxLen (s : State) : (s.advancePtr).rxLen = s.rxLen := rfl
@[simp] theorem State.advancePtr_txLen (s : State) : (s.advancePtr).txLen = s.txLen := rfl
@[simp] theorem State.advancePtr_cmdR (s : State) : (s.advancePtr).cmdR = s.cmdR := rfl
@[simp] theorem State.advancePtr_pLen (s : State) : (s.advancePtr).pLen = s.pLen := rfl
@[simp] theorem State.advancePtr_err (s : State) : (s.advancePtr).err = s.err := rfl
@[simp] theorem State.advancePtr_mem (s : State) : (s.advancePtr).mem = s.mem := rfl

/-! ### deliver -/

@[simp] theorem State.deliver_params (s : State) (c : Byte) (p : List Byte) (v : Bool) : (s.deliver c p v).params = s.params := rfl
@[simp] theorem State.deliver_inputs (s : State) (c : Byte) (p : List Byte) (v : Bool) : (s.deliver c p v).inputs = s.inputs := rfl
@[simp] theorem State.deliver_resp (s : State) (c : Byte) (p : List Byte) (v : Bool) : (s.deliver c p v).resp = s.resp := rfl
@[simp] theorem State.deliver_freeCtr (s : State) (c : Byte) (p : List Byte) (v : Bool) : (s.deliver c p v).freeCtr = s.freeCtr := rfl
@[simp] theorem State.deliver_idx (s : State) (c : Byte) (p : List Byte) (v : Bool) : (s.deliver c p v).idx = s.idx := rfl
@[simp] theorem State.deliver_rxMode (s : State) (c : Byte) (p : List Byte) (v : Bool) : (s.deliver c p v).rxMode = s.rxMode := rfl
@[simp] theorem State.deliver_txMode (s : State) (c : Byte) (p : List Byte) (v : Bool) : (s.deliver c p v).txMode = s.txMode := rfl
@[simp] theorem State.deliver_rxFreq (s : State) (c : Byte) (p : List Byte) (v : Bool) : (s.deliver c p v).rxFreq = s.rxFreq := rfl
@[simp] theorem State.deliver_txFreq (s : State) (c : Byte) (p : List Byte) (v : Bool) : (s.deliver c p v).txFreq = s.txFreq := rfl
@[simp] theorem State.deliver_rxTone (s : State) (c : Byte) (p : List Byte) (v : Bool) : (s.deliver c p v).rxTone = s.rxTone := rfl
@[simp] theorem State.deliver_txTone (s : State) (c : Byte) (p : List Byte) (v : Bool) : (s.deliver c p v).txTone = s.txTone := rfl
@[simp] theorem State.deliver_nameLen (s : State) (c : Byte) (p : List Byte) (v : Bool) : (s.deliver c p v).nameLen = s.nameLen := rfl
@[simp] theorem State.deliver_rxCc (s : State) (c : Byte) (p : List Byte) (v : Bool) : (s.deliver c p v).rxCc = s.rxCc := rfl
@[simp] theorem State.deliver_txCc (s : State) (c : Byte) (p : List Byte) (v : Bool) : (s.deliver c p v).txCc = s.txCc := rfl
@[simp] theorem State.deliver_slot (s : State) (c : Byte) (p : List Byte) (v : Bool) : (s.deliver c p v).slot = s.slot := rfl
@[simp] theorem State.deliver_callId (s : State) (c : Byte) (p : List Byte) (v : Bool) : (s.deliver c p v).callId = s.callId := rfl
@[simp] theorem State.deliver_ownId (s : State) (c : Byte) (p : List Byte) (v : Bool) : (s.deliver c p v).ownId = s.ownId := rfl
@[simp] theorem State.deliver_callFmt (s : State) (c : Byte) (p : List Byte) (v : Bool) : (s.deliver c p v).callFmt = s.callFmt := rfl
@[simp] theorem State.deliver_crc (s : State) (c : Byte) (p : List Byte) (v : Bool) : (s.deliver c p v).crc = s.crc := rfl
@[simp] theorem State.deliver_ptr (s : State) (c : Byte) (p : List Byte) (v : Bool) : (s.deliver c p v).ptr = s.ptr := rfl
@[simp] theorem State.deliver_dout (s : State) (c : Byte) (p : List Byte) (v : Bool) : (s.deliver c p v).dout = s.dout := rfl
@[simp] theorem State.deliver_crcOk (s : State) (c : Byte) (p : List Byte) (v : Bool) : (s.deliver c p v).crcOk = v := rfl
@[simp] theorem State.deliver_ill (s : State) (c : Byte) (p : List Byte) (v : Bool) : (s.deliver c p v).ill = s.ill := rfl
@[simp] theorem State.deliver_noTerm (s : State) (c : Byte) (p : List Byte) (v : Bool) : (s.deliver c p v).noTerm = s.noTerm := rfl
@[simp] theorem State.deliver_rstate (s : State) (c : Byte) (p : List Byte) (v : Bool) : (s.deliver c p v).rstate = s.rstate := rfl
@[simp] theorem State.deliver_win (s : State) (c : Byte) (p : List Byte) (v : Bool) : (s.deliver c p v).win = s.win := rfl
@[simp] theorem State.deliver_scanCnt (s : State) (c : Byte) (p : List Byte) (v : Bool) : (s.deliver c p v).scanCnt = s.scanCnt := rfl
@[simp] theorem State.deliver_skip (s : State) (c : Byte) (p : List Byte) (v : Bool) : (s.deliver c p v).skip = s.skip := rfl
@[simp] theorem State.deliver_lenR (s : State) (c : Byte) (p : List Byte) (v : Bool) : (s.deliver c p v).lenR = s.lenR := rfl
@[simp] theorem State.deliver_bodyCnt (s : State) (c : Byte) (p : List Byte) (v : Bool) : (s.deliver c p v).bodyCnt = s.bodyCnt := rfl
@[simp] theorem State.deliver_rxLen (s : State) (c : Byte) (p : List Byte) (v : Bool) : (s.deliver c p v).rxLen = s.rxLen := rfl
@[simp] theorem State.deliver_txLen (s : State) (c : Byte) (p : List Byte) (v : Bool) : (s.deliver c p v).txLen = s.txLen := rfl
@[simp] theorem State.deliver_cmdR (s : State) (c : Byte) (p : List Byte) (v : Bool) : (s.deliver c p v).cmdR = c := rfl
@[simp] theorem State.deliver_pLen (s : State) (c : Byte) (p : List Byte) (v : Bool) : (s.deliver c p v).pLen = BitVec.ofNat 8 p.length := rfl
@[simp] theorem State.deliver_err (s : State) (c : Byte) (p : List Byte) (v : Bool) : (s.deliver c p v).err = s.err := rfl
@[simp] theorem State.deliver_mem (s : State) (c : Byte) (p : List Byte) (v : Bool) : (s.deliver c p v).mem = memWriteBytes s.mem pbufBase p := rfl

/-! ### rejectFrame -/

@[simp] theorem State.rejectFrame_params (s : State) : (s.rejectFrame).params = s.params := rfl
@[simp] theorem State.rejectFrame_inputs (s : State) : (s.rejectFrame).inputs = s.inputs := rfl
@[simp] theorem State.rejectFrame_resp (s : State) : (s.rejectFrame).resp = s.resp := rfl
@[simp] theorem State.rejectFrame_freeCtr (s : State) : (s.rejectFrame).freeCtr = s.freeCtr := rfl
@[simp] theorem State.rejectFrame_idx (s : State) : (s.rejectFrame).idx = s.idx := rfl
@[simp] theorem State.rejectFrame_rxMode (s : State) : (s.rejectFrame).rxMode = s.rxMode := rfl
@[simp] theorem State.rejectFrame_txMode (s : State) : (s.rejectFrame).txMode = s.txMode := rfl
@[simp] theorem State.rejectFrame_rxFreq (s : State) : (s.rejectFrame).rxFreq = s.rxFreq := rfl
@[simp] theorem State.rejectFrame_txFreq (s : State) : (s.rejectFrame).txFreq = s.txFreq := rfl
@[simp] theorem State.rejectFrame_rxTone (s : State) : (s.rejectFrame).rxTone = s.rxTone := rfl
@[simp] theorem State.rejectFrame_txTone (s : State) : (s.rejectFrame).txTone = s.txTone := rfl
@[simp] theorem State.rejectFrame_nameLen (s : State) : (s.rejectFrame).nameLen = s.nameLen := rfl
@[simp] theorem State.rejectFrame_rxCc (s : State) : (s.rejectFrame).rxCc = s.rxCc := rfl
@[simp] theorem State.rejectFrame_txCc (s : State) : (s.rejectFrame).txCc = s.txCc := rfl
@[simp] theorem State.rejectFrame_slot (s : State) : (s.rejectFrame).slot = s.slot := rfl
@[simp] theorem State.rejectFrame_callId (s : State) : (s.rejectFrame).callId = s.callId := rfl
@[simp] theorem State.rejectFrame_ownId (s : State) : (s.rejectFrame).ownId = s.ownId := rfl
@[simp] theorem State.rejectFrame_callFmt (s : State) : (s.rejectFrame).callFmt = s.callFmt := rfl
@[simp] theorem State.rejectFrame_crc (s : State) : (s.rejectFrame).crc = s.crc := rfl
@[simp] theorem State.rejectFrame_ptr (s : State) : (s.rejectFrame).ptr = s.ptr := rfl
@[simp] theorem State.rejectFrame_dout (s : State) : (s.rejectFrame).dout = s.dout := rfl
@[simp] theorem State.rejectFrame_crcOk (s : State) : (s.rejectFrame).crcOk = false := rfl
@[simp] theorem State.rejectFrame_ill (s : State) : (s.rejectFrame).ill = s.ill := rfl
@[simp] theorem State.rejectFrame_noTerm (s : State) : (s.rejectFrame).noTerm = s.noTerm := rfl
@[simp] theorem State.rejectFrame_rstate (s : State) : (s.rejectFrame).rstate = s.rstate := rfl
@[simp] theorem State.rejectFrame_win (s : State) : (s.rejectFrame).win = s.win := rfl
@[simp] theorem State.rejectFrame_scanCnt (s : State) : (s.rejectFrame).scanCnt = s.scanCnt := rfl
@[simp] theorem State.rejectFrame_skip (s : State) : (s.rejectFrame).skip = s.skip := rfl
@[simp] theorem State.rejectFrame_lenR (s : State) : (s.rejectFrame).lenR = s.lenR := rfl
@[simp] theorem State.rejectFrame_bodyCnt (s : State) : (s.rejectFrame).bodyCnt = s.bodyCnt := rfl
@[simp] theorem State.rejectFrame_rxLen (s : State) : (s.rejectFrame).rxLen = s.rxLen := rfl
@[simp] theorem State.rejectFrame_txLen (s : State) : (s.rejectFrame).txLen = s.txLen := rfl
@[simp] theorem State.rejectFrame_cmdR (s : State) : (s.rejectFrame).cmdR = s.cmdR := rfl
@[simp] theorem State.rejectFrame_pLen (s : State) : (s.rejectFrame).pLen = s.pLen := rfl
@[simp] theorem State.rejectFrame_err (s : State) : (s.rejectFrame).err = .malformedFrame := rfl
@[simp] theorem State.rejectFrame_mem (s : State) : (s.rejectFrame).mem = s.mem := rfl

/-! ### packRecord -/

@[simp] theorem State.packRecord_params (s : State) (r : List Byte) : (s.packRecord r).params = s.params := rfl
@[simp] theorem State.packRecord_inputs (s : State) (r : List Byte) : (s.packRecord r).inputs = s.inputs := rfl
@[simp] theorem State.packRecord_resp (s : State) (r : List Byte) : (s.packRecord r).resp = s.resp := rfl
@[simp] theorem State.packRecord_freeCtr (s : State) (r : List Byte) : (s.packRecord r).freeCtr = s.freeCtr := rfl
@[simp] theorem State.packRecord_idx (s : State) (r : List Byte) : (s.packRecord r).idx = s.idx := rfl
@[simp] theorem State.packRecord_rxMode (s : State) (r : List Byte) : (s.packRecord r).rxMode = s.rxMode := rfl
@[simp] theorem State.packRecord_txMode (s : State) (r : List Byte) : (s.packRecord r).txMode = s.txMode := rfl
@[simp] theorem State.packRecord_rxFreq (s : State) (r : List Byte) : (s.packRecord r).rxFreq = s.rxFreq := rfl
@[simp] theorem State.packRecord_txFreq (s : State) (r : List Byte) : (s.packRecord r).txFreq = s.txFreq := rfl
@[simp] theorem State.packRecord_rxTone (s : State) (r : List Byte) : (s.packRecord r).rxTone = s.rxTone := rfl
@[simp] theorem State.packRecord_txTone (s : State) (r : List Byte) : (s.packRecord r).txTone = s.txTone := rfl
@[simp] theorem State.packRecord_nameLen (s : State) (r : List Byte) : (s.packRecord r).nameLen = s.nameLen := rfl
@[simp] theorem State.packRecord_rxCc (s : State) (r : List Byte) : (s.packRecord r).rxCc = s.rxCc := rfl
@[simp] theorem State.packRecord_txCc (s : State) (r : List Byte) : (s.packRecord r).txCc = s.txCc := rfl
@[simp] theorem State.packRecord_slot (s : State) (r : List Byte) : (s.packRecord r).slot = s.slot := rfl
@[simp] theorem State.packRecord_callId (s : State) (r : List Byte) : (s.packRecord r).callId = s.callId := rfl
@[simp] theorem State.packRecord_ownId (s : State) (r : List Byte) : (s.packRecord r).ownId = s.ownId := rfl
@[simp] theorem State.packRecord_callFmt (s : State) (r : List Byte) : (s.packRecord r).callFmt = s.callFmt := rfl
@[simp] theorem State.packRecord_crc (s : State) (r : List Byte) : (s.packRecord r).crc = s.crc := rfl
@[simp] theorem State.packRecord_ptr (s : State) (r : List Byte) : (s.packRecord r).ptr = s.ptr := rfl
@[simp] theorem State.packRecord_dout (s : State) (r : List Byte) : (s.packRecord r).dout = s.dout := rfl
@[simp] theorem State.packRecord_crcOk (s : State) (r : List Byte) : (s.packRecord r).crcOk = s.crcOk := rfl
@[simp] theorem State.packRecord_ill (s : State) (r : List Byte) : (s.packRecord r).ill = s.ill := rfl
@[simp] theorem State.packRecord_noTerm (s : State) (r : List Byte) : (s.packRecord r).noTerm = s.noTerm := rfl
@[simp] theorem State.packRecord_rstate (s : State) (r : List Byte) : (s.packRecord r).rstate = s.rstate := rfl
@[simp] theorem State.packRecord_win (s : State) (r : List Byte) : (s.packRecord r).win = s.win := rfl
@[simp] theorem State.packRecord_scanCnt (s : State) (r : List Byte) : (s.packRecord r).scanCnt = s.scanCnt := rfl
@[simp] theorem State.packRecord_skip (s : State) (r : List Byte) : (s.packRecord r).skip = s.skip := rfl
@[simp] theorem State.packRecord_lenR (s : State) (r : List Byte) : (s.packRecord r).lenR = s.lenR := rfl
@[simp] theorem State.packRecord_bodyCnt (s : State) (r : List Byte) : (s.packRecord r).bodyCnt = s.bodyCnt := rfl
@[simp] theorem State.packRecord_rxLen (s : State) (r : List Byte) : (s.packRecord r).rxLen = s.rxLen := rfl
@[simp] theorem State.packRecord_txLen (s : State) (r : List Byte) : (s.packRecord r).txLen = s.txLen := rfl
@[simp] theorem State.packRecord_cmdR (s : State) (r : List Byte) : (s.packRecord r).cmdR = s.cmdR := rfl
@[simp] theorem State.packRecord_pLen (s : State) (r : List Byte) : (s.packRecord r).pLen = BitVec.ofNat 8 recLen := rfl
@[simp] theorem State.packRecord_err (s : State) (r : List Byte) : (s.packRecord r).err = .ok := rfl
@[simp] theorem State.packRecord_mem (s : State) (r : List Byte) : (s.packRecord r).mem = memWriteBytes s.mem pbufBase r := rfl

/-! ### unpackName -/

@[simp] theorem State.unpackName_params (s : State) : (s.unpackName).params = s.params := rfl
@[simp] theorem State.unpackName_inputs (s : State) : (s.unpackName).inputs = s.inputs := rfl
@[simp] theorem State.unpackName_resp (s : State) : (s.unpackName).resp = s.resp := rfl
@[simp] theorem State.unpackName_freeCtr (s : State) : (s.unpackName).freeCtr = s.freeCtr := rfl
@[simp] theorem State.unpackName_idx (s : State) : (s.unpackName).idx = s.idx := rfl
@[simp] theorem State.unpackName_rxMode (s : State) : (s.unpackName).rxMode = s.rxMode := rfl
@[simp] theorem State.unpackName_txMode (s : State) : (s.unpackName).txMode = s.txMode := rfl
@[simp] theorem State.unpackName_rxFreq (s : State) : (s.unpackName).rxFreq = s.rxFreq := rfl
@[simp] theorem State.unpackName_txFreq (s : State) : (s.unpackName).txFreq = s.txFreq := rfl
@[simp] theorem State.unpackName_rxTone (s : State) : (s.unpackName).rxTone = s.rxTone := rfl
@[simp] theorem State.unpackName_txTone (s : State) : (s.unpackName).txTone = s.txTone := rfl
@[simp] theorem State.unpackName_nameLen (s : State) : (s.unpackName).nameLen = BitVec.ofNat 8 s.fieldName.length := rfl
@[simp] theorem State.unpackName_rxCc (s : State) : (s.unpackName).rxCc = s.rxCc := rfl
@[simp] theorem State.unpackName_txCc (s : State) : (s.unpackName).txCc = s.txCc := rfl
@[simp] theorem State.unpackName_slot (s : State) : (s.unpackName).slot = s.slot := rfl
@[simp] theorem State.unpackName_callId (s : State) : (s.unpackName).callId = s.callId := rfl
@[simp] theorem State.unpackName_ownId (s : State) : (s.unpackName).ownId = s.ownId := rfl
@[simp] theorem State.unpackName_callFmt (s : State) : (s.unpackName).callFmt = s.callFmt := rfl
@[simp] theorem State.unpackName_crc (s : State) : (s.unpackName).crc = s.crc := rfl
@[simp] theorem State.unpackName_ptr (s : State) : (s.unpackName).ptr = s.ptr := rfl
@[simp] theorem State.unpackName_dout (s : State) : (s.unpackName).dout = s.dout := rfl
@[simp] theorem State.unpackName_crcOk (s : State) : (s.unpackName).crcOk = s.crcOk := rfl
@[simp] theorem State.unpackName_ill (s : State) : (s.unpackName).ill = s.ill := rfl
@[simp] theorem State.unpackName_noTerm (s : State) : (s.unpackName).noTerm = (s.fieldName.length == nameFieldLen) := rfl
@[simp] theorem State.unpackName_rstate (s : State) : (s.unpackName).rstate = s.rstate := rfl
@[simp] theorem State.unpackName_win (s : State) : (s.unpackName).win = s.win := rfl
@[simp] theorem State.unpackName_scanCnt (s : State) : (s.unpackName).scanCnt = s.scanCnt := rfl
@[simp] theorem State.unpackName_skip (s : State) : (s.unpackName).skip = s.skip := rfl
@[simp] theorem State.unpackName_lenR (s : State) : (s.unpackName).lenR = s.lenR := rfl
@[simp] theorem State.unpackName_bodyCnt (s : State) : (s.unpackName).bodyCnt = s.bodyCnt := rfl
@[simp] theorem State.unpackName_rxLen (s : State) : (s.unpackName).rxLen = s.rxLen := rfl
@[simp] theorem State.unpackName_txLen (s : State) : (s.unpackName).txLen = s.txLen := rfl
@[simp] theorem State.unpackName_cmdR (s : State) : (s.unpackName).cmdR = s.cmdR := rfl
@[simp] theorem State.unpackName_pLen (s : State) : (s.unpackName).pLen = s.pLen := rfl
@[simp] theorem State.unpackName_err (s : State) : (s.unpackName).err = s.err := rfl
@[simp] theorem State.unpackName_mem (s : State) : (s.unpackName).mem = memWriteBytes s.mem namechBase (s.fieldName ++ List.replicate (namechSize - s.fieldName.length) 0) := rfl

/-! ### loadBasic -/

@[simp] theorem State.loadBasic_params (s : State) : (s.loadBasic).params = s.params := rfl
@[simp] theorem State.loadBasic_inputs (s : State) : (s.loadBasic).inputs = s.inputs := rfl
@[simp] theorem State.loadBasic_resp (s : State) : (s.loadBasic).resp = s.resp := rfl
@[simp] theorem State.loadBasic_freeCtr (s : State) : (s.loadBasic).freeCtr = s.freeCtr := rfl
@[simp] theorem State.loadBasic_idx (s : State) : (s.loadBasic).idx = s.pbuf16 0 := rfl
@[simp] theorem State.loadBasic_rxMode (s : State) : (s.loadBasic).rxMode = s.pbuf 2 := rfl
@[simp] theorem State.loadBasic_txMode (s : State) : (s.loadBasic).txMode = s.pbuf 3 := rfl
@[simp] theorem State.loadBasic_rxFreq (s : State) : (s.loadBasic).rxFreq = s.pbuf32 4 := rfl
@[simp] theorem State.loadBasic_txFreq (s : State) : (s.loadBasic).txFreq = s.pbuf32 8 := rfl
@[simp] theorem State.loadBasic_rxTone (s : State) : (s.loadBasic).rxTone = s.pbuf 12 := rfl
@[simp] theorem State.loadBasic_txTone (s : State) : (s.loadBasic).txTone = s.pbuf 13 := rfl
@[simp] theorem State.loadBasic_nameLen (s : State) : (s.loadBasic).nameLen = s.nameLen := rfl
@[simp] theorem State.loadBasic_rxCc (s : State) : (s.loadBasic).rxCc = s.rxCc := rfl
@[simp] theorem State.loadBasic_txCc (s : State) : (s.loadBasic).txCc = s.txCc := rfl
@[simp] theorem State.loadBasic_slot (s : State) : (s.loadBasic).slot = s.slot := rfl
@[simp] theorem State.loadBasic_callId (s : State) : (s.loadBasic).callId = s.callId := rfl
@[simp] theorem State.loadBasic_ownId (s : State) : (s.loadBasic).ownId = s.ownId := rfl
@[simp] theorem State.loadBasic_callFmt (s : State) : (s.loadBasic).callFmt = s.callFmt := rfl
@[simp] theorem State.loadBasic_crc (s : State) : (s.loadBasic).crc = s.crc := rfl
@[simp] theorem State.loadBasic_ptr (s : State) : (s.loadBasic).ptr = s.ptr := rfl
@[simp] theorem State.loadBasic_dout (s : State) : (s.loadBasic).dout = s.dout := rfl
@[simp] theorem State.loadBasic_crcOk (s : State) : (s.loadBasic).crcOk = s.crcOk := rfl
@[simp] theorem State.loadBasic_ill (s : State) : (s.loadBasic).ill = s.ill := rfl
@[simp] theorem State.loadBasic_noTerm (s : State) : (s.loadBasic).noTerm = s.noTerm := rfl
@[simp] theorem State.loadBasic_rstate (s : State) : (s.loadBasic).rstate = s.rstate := rfl
@[simp] theorem State.loadBasic_win (s : State) : (s.loadBasic).win = s.win := rfl
@[simp] theorem State.loadBasic_scanCnt (s : State) : (s.loadBasic).scanCnt = s.scanCnt := rfl
@[simp] theorem State.loadBasic_skip (s : State) : (s.loadBasic).skip = s.skip := rfl
@[simp] theorem State.loadBasic_lenR (s : State) : (s.loadBasic).lenR = s.lenR := rfl
@[simp] theorem State.loadBasic_bodyCnt (s : State) : (s.loadBasic).bodyCnt = s.bodyCnt := rfl
@[simp] theorem State.loadBasic_rxLen (s : State) : (s.loadBasic).rxLen = s.rxLen := rfl
@[simp] theorem State.loadBasic_txLen (s : State) : (s.loadBasic).txLen = s.txLen := rfl
@[simp] theorem State.loadBasic_cmdR (s : State) : (s.loadBasic).cmdR = s.cmdR := rfl
@[simp] theorem State.loadBasic_pLen (s : State) : (s.loadBasic).pLen = s.pLen := rfl
@[simp] theorem State.loadBasic_err (s : State) : (s.loadBasic).err = s.err := rfl
@[simp] theorem State.loadBasic_mem (s : State) : (s.loadBasic).mem = s.mem := rfl

/-! ### loadDmr -/

@[simp] theorem State.loadDmr_params (s : State) : (s.loadDmr).params = s.params := rfl
@[simp] theorem State.loadDmr_inputs (s : State) : (s.loadDmr).inputs = s.inputs := rfl
@[simp] theorem State.loadDmr_resp (s : State) : (s.loadDmr).resp = s.resp := rfl
@[simp] theorem State.loadDmr_freeCtr (s : State) : (s.loadDmr).freeCtr = s.freeCtr := rfl
@[simp] theorem State.loadDmr_idx (s : State) : (s.loadDmr).idx = s.pbuf16 0 := rfl
@[simp] theorem State.loadDmr_rxMode (s : State) : (s.loadDmr).rxMode = s.rxMode := rfl
@[simp] theorem State.loadDmr_txMode (s : State) : (s.loadDmr).txMode = s.txMode := rfl
@[simp] theorem State.loadDmr_rxFreq (s : State) : (s.loadDmr).rxFreq = s.rxFreq := rfl
@[simp] theorem State.loadDmr_txFreq (s : State) : (s.loadDmr).txFreq = s.txFreq := rfl
@[simp] theorem State.loadDmr_rxTone (s : State) : (s.loadDmr).rxTone = s.rxTone := rfl
@[simp] theorem State.loadDmr_txTone (s : State) : (s.loadDmr).txTone = s.txTone := rfl
@[simp] theorem State.loadDmr_nameLen (s : State) : (s.loadDmr).nameLen = s.nameLen := rfl
@[simp] theorem State.loadDmr_rxCc (s : State) : (s.loadDmr).rxCc = s.pbuf 3 := rfl
@[simp] theorem State.loadDmr_txCc (s : State) : (s.loadDmr).txCc = s.pbuf 4 := rfl
@[simp] theorem State.loadDmr_slot (s : State) : (s.loadDmr).slot = s.pbuf 5 := rfl
@[simp] theorem State.loadDmr_callId (s : State) : (s.loadDmr).callId = s.pbuf32 6 := rfl
@[simp] theorem State.loadDmr_ownId (s : State) : (s.loadDmr).ownId = s.pbuf32 10 := rfl
@[simp] theorem State.loadDmr_callFmt (s : State) : (s.loadDmr).callFmt = s.pbuf 19 := rfl
@[simp] theorem State.loadDmr_crc (s : State) : (s.loadDmr).crc = s.crc := rfl
@[simp] theorem State.loadDmr_ptr (s : State) : (s.loadDmr).ptr = s.ptr := rfl
@[simp] theorem State.loadDmr_dout (s : State) : (s.loadDmr).dout = s.dout := rfl
@[simp] theorem State.loadDmr_crcOk (s : State) : (s.loadDmr).crcOk = s.crcOk := rfl
@[simp] theorem State.loadDmr_ill (s : State) : (s.loadDmr).ill = s.ill := rfl
@[simp] theorem State.loadDmr_noTerm (s : State) : (s.loadDmr).noTerm = s.noTerm := rfl
@[simp] theorem State.loadDmr_rstate (s : State) : (s.loadDmr).rstate = s.rstate := rfl
@[simp] theorem State.loadDmr_win (s : State) : (s.loadDmr).win = s.win := rfl
@[simp] theorem State.loadDmr_scanCnt (s : State) : (s.loadDmr).scanCnt = s.scanCnt := rfl
@[simp] theorem State.loadDmr_skip (s : State) : (s.loadDmr).skip = s.skip := rfl
@[simp] theorem State.loadDmr_lenR (s : State) : (s.loadDmr).lenR = s.lenR := rfl
@[simp] theorem State.loadDmr_bodyCnt (s : State) : (s.loadDmr).bodyCnt = s.bodyCnt := rfl
@[simp] theorem State.loadDmr_rxLen (s : State) : (s.loadDmr).rxLen = s.rxLen := rfl
@[simp] theorem State.loadDmr_txLen (s : State) : (s.loadDmr).txLen = s.txLen := rfl
@[simp] theorem State.loadDmr_cmdR (s : State) : (s.loadDmr).cmdR = s.cmdR := rfl
@[simp] theorem State.loadDmr_pLen (s : State) : (s.loadDmr).pLen = s.pLen := rfl
@[simp] theorem State.loadDmr_err (s : State) : (s.loadDmr).err = s.err := rfl
@[simp] theorem State.loadDmr_mem (s : State) : (s.loadDmr).mem = s.mem := rfl

/-! ### scanExhausted -/

@[simp] theorem State.scanExhausted_params (s : State) : (s.scanExhausted).params = s.params := rfl
@[simp] theorem State.scanExhausted_inputs (s : State) : (s.scanExhausted).inputs = s.inputs := rfl
@[simp] theorem State.scanExhausted_resp (s : State) : (s.scanExhausted).resp = s.resp := rfl
@[simp] theorem State.scanExhausted_freeCtr (s : State) : (s.scanExhausted).freeCtr = s.freeCtr := rfl
@[simp] theorem State.scanExhausted_idx (s : State) : (s.scanExhausted).idx = s.idx := rfl
@[simp] theorem State.scanExhausted_rxMode (s : State) : (s.scanExhausted).rxMode = s.rxMode := rfl
@[simp] theorem State.scanExhausted_txMode (s : State) : (s.scanExhausted).txMode = s.txMode := rfl
@[simp] theorem State.scanExhausted_rxFreq (s : State) : (s.scanExhausted).rxFreq = s.rxFreq := rfl
@[simp] theorem State.scanExhausted_txFreq (s : State) : (s.scanExhausted).txFreq = s.txFreq := rfl
@[simp] theorem State.scanExhausted_rxTone (s : State) : (s.scanExhausted).rxTone = s.rxTone := rfl
@[simp] theorem State.scanExhausted_txTone (s : State) : (s.scanExhausted).txTone = s.txTone := rfl
@[simp] theorem State.scanExhausted_nameLen (s : State) : (s.scanExhausted).nameLen = s.nameLen := rfl
@[simp] theorem State.scanExhausted_rxCc (s : State) : (s.scanExhausted).rxCc = s.rxCc := rfl
@[simp] theorem State.scanExhausted_txCc (s : State) : (s.scanExhausted).txCc = s.txCc := rfl
@[simp] theorem State.scanExhausted_slot (s : State) : (s.scanExhausted).slot = s.slot := rfl
@[simp] theorem State.scanExhausted_callId (s : State) : (s.scanExhausted).callId = s.callId := rfl
@[simp] theorem State.scanExhausted_ownId (s : State) : (s.scanExhausted).ownId = s.ownId := rfl
@[simp] theorem State.scanExhausted_callFmt (s : State) : (s.scanExhausted).callFmt = s.callFmt := rfl
@[simp] theorem State.scanExhausted_crc (s : State) : (s.scanExhausted).crc = s.crc := rfl
@[simp] theorem State.scanExhausted_ptr (s : State) : (s.scanExhausted).ptr = s.ptr := rfl
@[simp] theorem State.scanExhausted_dout (s : State) : (s.scanExhausted).dout = s.dout := rfl
@[simp] theorem State.scanExhausted_crcOk (s : State) : (s.scanExhausted).crcOk = false := rfl
@[simp] theorem State.scanExhausted_ill (s : State) : (s.scanExhausted).ill = s.ill := rfl
@[simp] theorem State.scanExhausted_noTerm (s : State) : (s.scanExhausted).noTerm = s.noTerm := rfl
@[simp] theorem State.scanExhausted_rstate (s : State) : (s.scanExhausted).rstate = .done := rfl
@[simp] theorem State.scanExhausted_win (s : State) : (s.scanExhausted).win = s.win := rfl
@[simp] theorem State.scanExhausted_scanCnt (s : State) : (s.scanExhausted).scanCnt = s.scanCnt := rfl
@[simp] theorem State.scanExhausted_skip (s : State) : (s.scanExhausted).skip = s.skip := rfl
@[simp] theorem State.scanExhausted_lenR (s : State) : (s.scanExhausted).lenR = s.lenR := rfl
@[simp] theorem State.scanExhausted_bodyCnt (s : State) : (s.scanExhausted).bodyCnt = s.bodyCnt := rfl
@[simp] theorem State.scanExhausted_rxLen (s : State) : (s.scanExhausted).rxLen = s.rxLen := rfl
@[simp] theorem State.scanExhausted_txLen (s : State) : (s.scanExhausted).txLen = s.txLen := rfl
@[simp] theorem State.scanExhausted_cmdR (s : State) : (s.scanExhausted).cmdR = s.cmdR := rfl
@[simp] theorem State.scanExhausted_pLen (s : State) : (s.scanExhausted).pLen = s.pLen := rfl
@[simp] theorem State.scanExhausted_err (s : State) : (s.scanExhausted).err = .timeout := rfl
@[simp] theorem State.scanExhausted_mem (s : State) : (s.scanExhausted).mem = s.mem := rfl

/-! ### matchFound -/

@[simp] theorem State.matchFound_params (s : State) : (s.matchFound).params = s.params := rfl
@[simp] theorem State.matchFound_inputs (s : State) : (s.matchFound).inputs = s.inputs := rfl
@[simp] theorem State.matchFound_resp (s : State) : (s.matchFound).resp = s.resp := rfl
@[simp] theorem State.matchFound_freeCtr (s : State) : (s.matchFound).freeCtr = s.freeCtr := rfl
@[simp] theorem State.matchFound_idx (s : State) : (s.matchFound).idx = s.idx := rfl
@[simp] theorem State.matchFound_rxMode (s : State) : (s.matchFound).rxMode = s.rxMode := rfl
@[simp] theorem State.matchFound_txMode (s : State) : (s.matchFound).txMode = s.txMode := rfl
@[simp] theorem State.matchFound_rxFreq (s : State) : (s.matchFound).rxFreq = s.rxFreq := rfl
@[simp] theorem State.matchFound_txFreq (s : State) : (s.matchFound).txFreq = s.txFreq := rfl
@[simp] theorem State.matchFound_rxTone (s : State) : (s.matchFound).rxTone = s.rxTone := rfl
@[simp] theorem State.matchFound_txTone (s : State) : (s.matchFound).txTone = s.txTone := rfl
@[simp] theorem State.matchFound_nameLen (s : State) : (s.matchFound).nameLen = s.nameLen := rfl
@[simp] theorem State.matchFound_rxCc (s : State) : (s.matchFound).rxCc = s.rxCc := rfl
@[simp] theorem State.matchFound_txCc (s : State) : (s.matchFound).txCc = s.txCc := rfl
@[simp] theorem State.matchFound_slot (s : State) : (s.matchFound).slot = s.slot := rfl
@[simp] theorem State.matchFound_callId (s : State) : (s.matchFound).callId = s.callId := rfl
@[simp] theorem State.matchFound_ownId (s : State) : (s.matchFound).ownId = s.ownId := rfl
@[simp] theorem State.matchFound_callFmt (s : State) : (s.matchFound).callFmt = s.callFmt := rfl
@[simp] theorem State.matchFound_crc (s : State) : (s.matchFound).crc = s.crc := rfl
@[simp] theorem State.matchFound_ptr (s : State) : (s.matchFound).ptr = s.ptr := rfl
@[simp] theorem State.matchFound_dout (s : State) : (s.matchFound).dout = s.dout := rfl
@[simp] theorem State.matchFound_crcOk (s : State) : (s.matchFound).crcOk = s.crcOk := rfl
@[simp] theorem State.matchFound_ill (s : State) : (s.matchFound).ill = s.ill := rfl
@[simp] theorem State.matchFound_noTerm (s : State) : (s.matchFound).noTerm = s.noTerm := rfl
@[simp] theorem State.matchFound_rstate (s : State) : (s.matchFound).rstate = .len := rfl
@[simp] theorem State.matchFound_win (s : State) : (s.matchFound).win = s.win := rfl
@[simp] theorem State.matchFound_scanCnt (s : State) : (s.matchFound).scanCnt = s.scanCnt := rfl
@[simp] theorem State.matchFound_skip (s : State) : (s.matchFound).skip = s.scanCnt - 4 := rfl
@[simp] theorem State.matchFound_lenR (s : State) : (s.matchFound).lenR = s.lenR := rfl
@[simp] theorem State.matchFound_bodyCnt (s : State) : (s.matchFound).bodyCnt = s.bodyCnt := rfl
@[simp] theorem State.matchFound_rxLen (s : State) : (s.matchFound).rxLen = 4 := rfl
@[simp] theorem State.matchFound_txLen (s : State) : (s.matchFound).txLen = s.txLen := rfl
@[simp] theorem State.matchFound_cmdR (s : State) : (s.matchFound).cmdR = s.cmdR := rfl
@[simp] theorem State.matchFound_pLen (s : State) : (s.matchFound).pLen = s.pLen := rfl
@[simp] theorem State.matchFound_err (s : State) : (s.matchFound).err = s.err := rfl
@[simp] theorem State.matchFound_mem (s : State) : (s.matchFound).mem = memWriteBytes s.mem rxbufBase magic := rfl

/-! ### countBody -/

@[simp] theorem State.countBody_params (s : State) : (s.countBody).params = s.params := rfl
@[simp] theorem State.countBody_inputs (s : State) : (s.countBody).inputs = s.inputs := rfl
@[simp] theorem State.countBody_resp (s : State) : (s.countBody).resp = s.resp := rfl
@[simp] theorem State.countBody_freeCtr (s : State) : (s.countBody).freeCtr = s.freeCtr := rfl
@[simp] theorem State.countBody_idx (s : State) : (s.countBody).idx = s.idx := rfl
@[simp] theorem State.countBody_rxMode (s : State) : (s.countBody).rxMode = s.rxMode := rfl
@[simp] theorem State.countBody_txMode (s : State) : (s.countBody).txMode = s.txMode := rfl
@[simp] theorem State.countBody_rxFreq (s : State) : (s.countBody).rxFreq = s.rxFreq := rfl
@[simp] theorem State.countBody_txFreq (s : State) : (s.countBody).txFreq = s.txFreq := rfl
@[simp] theorem State.countBody_rxTone (s : State) : (s.countBody).rxTone = s.rxTone := rfl
@[simp] theorem State.countBody_txTone (s : State) : (s.countBody).txTone = s.txTone := rfl
@[simp] theorem State.countBody_nameLen (s : State) : (s.countBody).nameLen = s.nameLen := rfl
@[simp] theorem State.countBody_rxCc (s : State) : (s.countBody).rxCc = s.rxCc := rfl
@[simp] theorem State.countBody_txCc (s : State) : (s.countBody).txCc = s.txCc := rfl
@[simp] theorem State.countBody_slot (s : State) : (s.countBody).slot = s.slot := rfl
@[simp] theorem State.countBody_callId (s : State) : (s.countBody).callId = s.callId := rfl
@[simp] theorem State.countBody_ownId (s : State) : (s.countBody).ownId = s.ownId := rfl
@[simp] theorem State.countBody_callFmt (s : State) : (s.countBody).callFmt = s.callFmt := rfl
@[simp] theorem State.countBody_crc (s : State) : (s.countBody).crc = s.crc := rfl
@[simp] theorem State.countBody_ptr (s : State) : (s.countBody).ptr = s.ptr := rfl
@[simp] theorem State.countBody_dout (s : State) : (s.countBody).dout = s.dout := rfl
@[simp] theorem State.countBody_crcOk (s : State) : (s.countBody).crcOk = s.crcOk := rfl
@[simp] theorem State.countBody_ill (s : State) : (s.countBody).ill = s.ill := rfl
@[simp] theorem State.countBody_noTerm (s : State) : (s.countBody).noTerm = s.noTerm := rfl
@[simp] theorem State.countBody_rstate (s : State) : (s.countBody).rstate = s.rstate := rfl
@[simp] theorem State.countBody_win (s : State) : (s.countBody).win = s.win := rfl
@[simp] theorem State.countBody_scanCnt (s : State) : (s.countBody).scanCnt = s.scanCnt := rfl
@[simp] theorem State.countBody_skip (s : State) : (s.countBody).skip = s.skip := rfl
@[simp] theorem State.countBody_lenR (s : State) : (s.countBody).lenR = s.lenR := rfl
@[simp] theorem State.countBody_bodyCnt (s : State) : (s.countBody).bodyCnt = s.bodyCnt + 1 := rfl
@[simp] theorem State.countBody_rxLen (s : State) : (s.countBody).rxLen = s.rxLen := rfl
@[simp] theorem State.countBody_txLen (s : State) : (s.countBody).txLen = s.txLen := rfl
@[simp] theorem State.countBody_cmdR (s : State) : (s.countBody).cmdR = s.cmdR := rfl
@[simp] theorem State.countBody_pLen (s : State) : (s.countBody).pLen = s.pLen := rfl
@[simp] theorem State.countBody_err (s : State) : (s.countBody).err = s.err := rfl
@[simp] theorem State.countBody_mem (s : State) : (s.countBody).mem = s.mem := rfl

/-! ### arm -/

@[simp] theorem State.arm_params (s : State) : (s.arm).params = s.params := rfl
@[simp] theorem State.arm_inputs (s : State) : (s.arm).inputs = s.inputs := rfl
@[simp] theorem State.arm_resp (s : State) : (s.arm).resp = s.resp := rfl
@[simp] theorem State.arm_freeCtr (s : State) : (s.arm).freeCtr = s.freeCtr := rfl
@[simp] theorem State.arm_idx (s : State) : (s.arm).idx = s.idx := rfl
@[simp] theorem State.arm_rxMode (s : State) : (s.arm).rxMode = s.rxMode := rfl
@[simp] theorem State.arm_txMode (s : State) : (s.arm).txMode = s.txMode := rfl
@[simp] theorem State.arm_rxFreq (s : State) : (s.arm).rxFreq = s.rxFreq := rfl
@[simp] theorem State.arm_txFreq (s : State) : (s.arm).txFreq = s.txFreq := rfl
@[simp] theorem State.arm_rxTone (s : State) : (s.arm).rxTone = s.rxTone := rfl
@[simp] theorem State.arm_txTone (s : State) : (s.arm).txTone = s.txTone := rfl
@[simp] theorem State.arm_nameLen (s : State) : (s.arm).nameLen = s.nameLen := rfl
@[simp] theorem State.arm_rxCc (s : State) : (s.arm).rxCc = s.rxCc := rfl
@[simp] theorem State.arm_txCc (s : State) : (s.arm).txCc = s.txCc := rfl
@[simp] theorem State.arm_slot (s : State) : (s.arm).slot = s.slot := rfl
@[simp] theorem State.arm_callId (s : State) : (s.arm).callId = s.callId := rfl
@[simp] theorem State.arm_ownId (s : State) : (s.arm).ownId = s.ownId := rfl
@[simp] theorem State.arm_callFmt (s : State) : (s.arm).callFmt = s.callFmt := rfl
@[simp] theorem State.arm_crc (s : State) : (s.arm).crc = s.crc := rfl
@[simp] theorem State.arm_ptr (s : State) : (s.arm).ptr = s.ptr := rfl
@[simp] theorem State.arm_dout (s : State) : (s.arm).dout = s.dout := rfl
@[simp] theorem State.arm_crcOk (s : State) : (s.arm).crcOk = false := rfl
@[simp] theorem State.arm_ill (s : State) : (s.arm).ill = s.ill := rfl
@[simp] theorem State.arm_noTerm (s : State) : (s.arm).noTerm = s.noTerm := rfl
@[simp] theorem State.arm_rstate (s : State) : (s.arm).rstate = .hunt := rfl
@[simp] theorem State.arm_win (s : State) : (s.arm).win = 0 := rfl
@[simp] theorem State.arm_scanCnt (s : State) : (s.arm).scanCnt = 0 := rfl
@[simp] theorem State.arm_skip (s : State) : (s.arm).skip = 0 := rfl
@[simp] theorem State.arm_lenR (s : State) : (s.arm).lenR = 0 := rfl
@[simp] theorem State.arm_bodyCnt (s : State) : (s.arm).bodyCnt = 0 := rfl
@[simp] theorem State.arm_rxLen (s : State) : (s.arm).rxLen = 0 := rfl
@[simp] theorem State.arm_txLen (s : State) : (s.arm).txLen = s.txLen := rfl
@[simp] theorem State.arm_cmdR (s : State) : (s.arm).cmdR = s.cmdR := rfl
@[simp] theorem State.arm_pLen (s : State) : (s.arm).pLen = s.pLen := rfl
@[simp] theorem State.arm_err (s : State) : (s.arm).err = .ok := rfl
@[simp] theorem State.arm_mem (s : State) : (s.arm).mem = s.mem := rfl

/-! ### expire -/

@[simp] theorem State.expire_params (s : State) : (s.expire).params = s.params := rfl
@[simp] theorem State.expire_inputs (s : State) : (s.expire).inputs = s.inputs := rfl
@[simp] theorem State.expire_resp (s : State) : (s.expire).resp = s.resp := rfl
@[simp] theorem State.expire_freeCtr (s : State) : (s.expire).freeCtr = s.freeCtr := rfl
@[simp] theorem State.expire_idx (s : State) : (s.expire).idx = s.idx := rfl
@[simp] theorem State.expire_rxMode (s : State) : (s.expire).rxMode = s.rxMode := rfl
@[simp] theorem State.expire_txMode (s : State) : (s.expire).txMode = s.txMode := rfl
@[simp] theorem State.expire_rxFreq (s : State) : (s.expire).rxFreq = s.rxFreq := rfl
@[simp] theorem State.expire_txFreq (s : State) : (s.expire).txFreq = s.txFreq := rfl
@[simp] theorem State.expire_rxTone (s : State) : (s.expire).rxTone = s.rxTone := rfl
@[simp] theorem State.expire_txTone (s : State) : (s.expire).txTone = s.txTone := rfl
@[simp] theorem State.expire_nameLen (s : State) : (s.expire).nameLen = s.nameLen := rfl
@[simp] theorem State.expire_rxCc (s : State) : (s.expire).rxCc = s.rxCc := rfl
@[simp] theorem State.expire_txCc (s : State) : (s.expire).txCc = s.txCc := rfl
@[simp] theorem State.expire_slot (s : State) : (s.expire).slot = s.slot := rfl
@[simp] theorem State.expire_callId (s : State) : (s.expire).callId = s.callId := rfl
@[simp] theorem State.expire_ownId (s : State) : (s.expire).ownId = s.ownId := rfl
@[simp] theorem State.expire_callFmt (s : State) : (s.expire).callFmt = s.callFmt := rfl
@[simp] theorem State.expire_crc (s : State) : (s.expire).crc = s.crc := rfl
@[simp] theorem State.expire_ptr (s : State) : (s.expire).ptr = s.ptr := rfl
@[simp] theorem State.expire_dout (s : State) : (s.expire).dout = s.dout := rfl
@[simp] theorem State.expire_crcOk (s : State) : (s.expire).crcOk = false := rfl
@[simp] theorem State.expire_ill (s : State) : (s.expire).ill = s.ill := rfl
@[simp] theorem State.expire_noTerm (s : State) : (s.expire).noTerm = s.noTerm := rfl
@[simp] theorem State.expire_rstate (s : State) : (s.expire).rstate = .done := rfl
@[simp] theorem State.expire_win (s : State) : (s.expire).win = s.win := rfl
@[simp] theorem State.expire_scanCnt (s : State) : (s.expire).scanCnt = s.scanCnt := rfl
@[simp] theorem State.expire_skip (s : State) : (s.expire).skip = s.skip := rfl
@[simp] theorem State.expire_lenR (s : State) : (s.expire).lenR = s.lenR := rfl
@[simp] theorem State.expire_bodyCnt (s : State) : (s.expire).bodyCnt = s.bodyCnt := rfl
@[simp] theorem State.expire_rxLen (s : State) : (s.expire).rxLen = s.rxLen := rfl
@[simp] theorem State.expire_txLen (s : State) : (s.expire).txLen = s.txLen := rfl
@[simp] theorem State.expire_cmdR (s : State) : (s.expire).cmdR = s.cmdR := rfl
@[simp] theorem State.expire_pLen (s : State) : (s.expire).pLen = s.pLen := rfl
@[simp] theorem State.expire_err (s : State) : (s.expire).err = .timeout := rfl
@[simp] theorem State.expire_mem (s : State) : (s.expire).mem = s.mem := rfl

/-! ### slide -/

@[simp] theorem State.slide_params (s : State) (b : Byte) : (s.slide b).params = s.params := rfl
@[simp] theorem State.slide_inputs (s : State) (b : Byte) : (s.slide b).inputs = s.inputs := rfl
@[simp] theorem State.slide_resp (s : State) (b : Byte) : (s.slide b).resp = s.resp := rfl
@[simp] theorem State.slide_freeCtr (s : State) (b : Byte) : (s.slide b).freeCtr = s.freeCtr := rfl
@[simp] theorem State.slide_idx (s : State) (b : Byte) : (s.slide b).idx = s.idx := rfl
@[simp] theorem State.slide_rxMode (s : State) (b : Byte) : (s.slide b).rxMode = s.rxMode := rfl
@[simp] theorem State.slide_txMode (s : State) (b : Byte) : (s.slide b).txMode = s.txMode := rfl
@[simp] theorem State.slide_rxFreq (s : State) (b : Byte) : (s.slide b).rxFreq = s.rxFreq := rfl
@[simp] theorem State.slide_txFreq (s : State) (b : Byte) : (s.slide b).txFreq = s.txFreq := rfl
@[simp] theorem State.slide_rxTone (s : State) (b : Byte) : (s.slide b).rxTone = s.rxTone := rfl
@[simp] theorem State.slide_txTone (s : State) (b : Byte) : (s.slide b).txTone = s.txTone := rfl
@[simp] theorem State.slide_nameLen (s : State) (b : Byte) : (s.slide b).nameLen = s.nameLen := rfl
@[simp] theorem State.slide_rxCc (s : State) (b : Byte) : (s.slide b).rxCc = s.rxCc := rfl
@[simp] theorem State.slide_txCc (s : State) (b : Byte) : (s.slide b).txCc = s.txCc := rfl
@[simp] theorem State.slide_slot (s : State) (b : Byte) : (s.slide b).slot = s.slot := rfl
@[simp] theorem State.slide_callId (s : State) (b : Byte) : (s.slide b).callId = s.callId := rfl
@[simp] theorem State.slide_ownId (s : State) (b : Byte) : (s.slide b).ownId = s.ownId := rfl
@[simp] theorem State.slide_callFmt (s : State) (b : Byte) : (s.slide b).callFmt = s.callFmt := rfl
@[simp] theorem State.slide_crc (s : State) (b : Byte) : (s.slide b).crc = s.crc := rfl
@[simp] theorem State.slide_ptr (s : State) (b : Byte) : (s.slide b).ptr = s.ptr := rfl
@[simp] theorem State.slide_dout (s : State) (b : Byte) : (s.slide b).dout = s.dout := rfl
@[simp] theorem State.slide_crcOk (s : State) (b : Byte) : (s.slide b).crcOk = s.crcOk := rfl
@[simp] theorem State.slide_ill (s : State) (b : Byte) : (s.slide b).ill = s.ill := rfl
@[simp] theorem State.slide_noTerm (s : State) (b : Byte) : (s.slide b).noTerm = s.noTerm := rfl
@[simp] theorem State.slide_rstate (s : State) (b : Byte) : (s.slide b).rstate = s.rstate := rfl
@[simp] theorem State.slide_win (s : State) (b : Byte) : (s.slide b).win = shiftWindow s.win b := rfl
@[simp] theorem State.slide_scanCnt (s : State) (b : Byte) : (s.slide b).scanCnt = s.scanCnt + 1 := rfl
@[simp] theorem State.slide_skip (s : State) (b : Byte) : (s.slide b).skip = s.skip := rfl
@[simp] theorem State.slide_lenR (s : State) (b : Byte) : (s.slide b).lenR = s.lenR := rfl
@[simp] theorem State.slide_bodyCnt (s : State) (b : Byte) : (s.slide b).bodyCnt = s.bodyCnt := rfl
@[simp] theorem State.slide_rxLen (s : State) (b : Byte) : (s.slide b).rxLen = s.rxLen := rfl
@[simp] theorem State.slide_txLen (s : State) (b : Byte) : (s.slide b).txLen = s.txLen := rfl
@[simp] theorem State.slide_cmdR (s : State) (b : Byte) : (s.slide b).cmdR = s.cmdR := rfl
@[simp] theorem State.slide_pLen (s : State) (b : Byte) : (s.slide b).pLen = s.pLen := rfl
@[simp] theorem State.slide_err (s : State) (b : Byte) : (s.slide b).err = s.err := rfl
@[simp] theorem State.slide_mem (s : State) (b : Byte) : (s.slide b).mem = s.mem := rfl

/-! ### takeLen -/

@[simp] theorem State.takeLen_params (s : State) (b : Byte) : (s.takeLen b).params = s.params := rfl
@[simp] theorem State.takeLen_inputs (s : State) (b : Byte) : (s.takeLen b).inputs = s.inputs := rfl
@[simp] theorem State.takeLen_resp (s : State) (b : Byte) : (s.takeLen b).resp = s.resp := rfl
@[simp] theorem State.takeLen_freeCtr (s : State) (b : Byte) : (s.takeLen b).freeCtr = s.freeCtr := rfl
@[simp] theorem State.takeLen_idx (s : State) (b : Byte) : (s.takeLen b).idx = s.idx := rfl
@[simp] theorem State.takeLen_rxMode (s : State) (b : Byte) : (s.takeLen b).rxMode = s.rxMode := rfl
@[simp] theorem State.takeLen_txMode (s : State) (b : Byte) : (s.takeLen b).txMode = s.txMode := rfl
@[simp] theorem State.takeLen_rxFreq (s : State) (b : Byte) : (s.takeLen b).rxFreq = s.rxFreq := rfl
@[simp] theorem State.takeLen_txFreq (s : State) (b : Byte) : (s.takeLen b).txFreq = s.txFreq := rfl
@[simp] theorem State.takeLen_rxTone (s : State) (b : Byte) : (s.takeLen b).rxTone = s.rxTone := rfl
@[simp] theorem State.takeLen_txTone (s : State) (b : Byte) : (s.takeLen b).txTone = s.txTone := rfl
@[simp] theorem State.takeLen_nameLen (s : State) (b : Byte) : (s.takeLen b).nameLen = s.nameLen := rfl
@[simp] theorem State.takeLen_rxCc (s : State) (b : Byte) : (s.takeLen b).rxCc = s.rxCc := rfl
@[simp] theorem State.takeLen_txCc (s : State) (b : Byte) : (s.takeLen b).txCc = s.txCc := rfl
@[simp] theorem State.takeLen_slot (s : State) (b : Byte) : (s.takeLen b).slot = s.slot := rfl
@[simp] theorem State.takeLen_callId (s : State) (b : Byte) : (s.takeLen b).callId = s.callId := rfl
@[simp] theorem State.takeLen_ownId (s : State) (b : Byte) : (s.takeLen b).ownId = s.ownId := rfl
@[simp] theorem State.takeLen_callFmt (s : State) (b : Byte) : (s.takeLen b).callFmt = s.callFmt := rfl
@[simp] theorem State.takeLen_crc (s : State) (b : Byte) : (s.takeLen b).crc = s.crc := rfl
@[simp] theorem State.takeLen_ptr (s : State) (b : Byte) : (s.takeLen b).ptr = s.ptr := rfl
@[simp] theorem State.takeLen_dout (s : State) (b : Byte) : (s.takeLen b).dout = s.dout := rfl
@[simp] theorem State.takeLen_crcOk (s : State) (b : Byte) : (s.takeLen b).crcOk = s.crcOk := rfl
@[simp] theorem State.takeLen_ill (s : State) (b : Byte) : (s.takeLen b).ill = s.ill := rfl
@[simp] theorem State.takeLen_noTerm (s : State) (b : Byte) : (s.takeLen b).noTerm = s.noTerm := rfl
@[simp] theorem State.takeLen_rstate (s : State) (b : Byte) : (s.takeLen b).rstate = s.rstate := rfl
@[simp] theorem State.takeLen_win (s : State) (b : Byte) : (s.takeLen b).win = s.win := rfl
@[simp] theorem State.takeLen_scanCnt (s : State) (b : Byte) : (s.takeLen b).scanCnt = s.scanCnt := rfl
@[simp] theorem State.takeLen_skip (s : State) (b : Byte) : (s.takeLen b).skip = s.skip := rfl
@[simp] theorem State.takeLen_lenR (s : State) (b : Byte) : (s.takeLen b).lenR = b := rfl
@[simp] theorem State.takeLen_bodyCnt (s : State) (b : Byte) : (s.takeLen b).bodyCnt = 0 := rfl
@[simp] theorem State.takeLen_rxLen (s : State) (b : Byte) : (s.takeLen b).rxLen = 5 := rfl
@[simp] theorem State.takeLen_txLen (s : State) (b : Byte) : (s.takeLen b).txLen = s.txLen := rfl
@[simp] theorem State.takeLen_cmdR (s : State) (b : Byte) : (s.takeLen b).cmdR = s.cmdR := rfl
@[simp] theorem State.takeLen_pLen (s : State) (b : Byte) : (s.takeLen b).pLen = s.pLen := rfl
@[simp] theorem State.takeLen_err (s : State) (b : Byte) : (s.takeLen b).err = s.err := rfl
@[simp] theorem State.takeLen_mem (s : State) (b : Byte) : (s.takeLen b).mem = memWriteBytes s.mem (rxbufBase + 4) [b] := rfl

/-! ### enterBody -/

@[simp] theorem State.enterBody_params (s : State) : (s.enterBody).params = s.params := rfl
@[simp] theorem State.enterBody_inputs (s : State) : (s.enterBody).inputs = s.inputs := rfl
@[simp] theorem State.enterBody_resp (s : State) : (s.enterBody).resp = s.resp := rfl
@[simp] theorem State.enterBody_freeCtr (s : State) : (s.enterBody).freeCtr = s.freeCtr := rfl
@[simp] theorem State.enterBody_idx (s : State) : (s.enterBody).idx = s.idx := rfl
@[simp] theorem State.enterBody_rxMode (s : State) : (s.enterBody).rxMode = s.rxMode := rfl
@[simp] theorem State.enterBody_txMode (s : State) : (s.enterBody).txMode = s.txMode := rfl
@[simp] theorem State.enterBody_rxFreq (s : State) : (s.enterBody).rxFreq = s.rxFreq := rfl
@[simp] theorem State.enterBody_txFreq (s : State) : (s.enterBody).txFreq = s.txFreq := rfl
@[simp] theorem State.enterBody_rxTone (s : State) : (s.enterBody).rxTone = s.rxTone := rfl
@[simp] theorem State.enterBody_txTone (s : State) : (s.enterBody).txTone = s.txTone := rfl
@[simp] theorem State.enterBody_nameLen (s : State) : (s.enterBody).nameLen = s.nameLen := rfl
@[simp] theorem State.enterBody_rxCc (s : State) : (s.enterBody).rxCc = s.rxCc := rfl
@[simp] theorem State.enterBody_txCc (s : State) : (s.enterBody).txCc = s.txCc := rfl
@[simp] theorem State.enterBody_slot (s : State) : (s.enterBody).slot = s.slot := rfl
@[simp] theorem State.enterBody_callId (s : State) : (s.enterBody).callId = s.callId := rfl
@[simp] theorem State.enterBody_ownId (s : State) : (s.enterBody).ownId = s.ownId := rfl
@[simp] theorem State.enterBody_callFmt (s : State) : (s.enterBody).callFmt = s.callFmt := rfl
@[simp] theorem State.enterBody_crc (s : State) : (s.enterBody).crc = s.crc := rfl
@[simp] theorem State.enterBody_ptr (s : State) : (s.enterBody).ptr = s.ptr := rfl
@[simp] theorem State.enterBody_dout (s : State) : (s.enterBody).dout = s.dout := rfl
@[simp] theorem State.enterBody_crcOk (s : State) : (s.enterBody).crcOk = s.crcOk := rfl
@[simp] theorem State.enterBody_ill (s : State) : (s.enterBody).ill = s.ill := rfl
@[simp] theorem State.enterBody_noTerm (s : State) : (s.enterBody).noTerm = s.noTerm := rfl
@[simp] theorem State.enterBody_rstate (s : State) : (s.enterBody).rstate = .body := rfl
@[simp] theorem State.enterBody_win (s : State) : (s.enterBody).win = s.win := rfl
@[simp] theorem State.enterBody_scanCnt (s : State) : (s.enterBody).scanCnt = s.scanCnt := rfl
@[simp] theorem State.enterBody_skip (s : State) : (s.enterBody).skip = s.skip := rfl
@[simp] theorem State.enterBody_lenR (s : State) : (s.enterBody).lenR = s.lenR := rfl
@[simp] theorem State.enterBody_bodyCnt (s : State) : (s.enterBody).bodyCnt = s.bodyCnt := rfl
@[simp] theorem State.enterBody_rxLen (s : State) : (s.enterBody).rxLen = s.rxLen := rfl
@[simp] theorem State.enterBody_txLen (s : State) : (s.enterBody).txLen = s.txLen := rfl
@[simp] theorem State.enterBody_cmdR (s : State) : (s.enterBody).cmdR = s.cmdR := rfl
@[simp] theorem State.enterBody_pLen (s : State) : (s.enterBody).pLen = s.pLen := rfl
@[simp] theorem State.enterBody_err (s : State) : (s.enterBody).err = s.err := rfl
@[simp] theorem State.enterBody_mem (s : State) : (s.enterBody).mem = s.mem := rfl

end Sys2Proof.Machine
end

