-- ==== Sys2Proof/Laws/Exec.lean ====
section
/-! SUPPORT. What every instruction answers: always a next state, given by one function; and what a step and a sequence of instructions answer in terms of it. -/

namespace Sys2Proof.Machine

/-- The next state of every instruction. -/
def effect : Instr → State → State
  | .nop, s => s.respond 0
  | .sel a, s => { s with ptr := a }.respond 0
  | .wrb b, s => ((laneWrite s.ptr b s).advancePtr).respond 0
  | .rdb, s => ({ s with dout := laneRead s s.ptr }.advancePtr).respond (laneRead s s.ptr)
  | .crcInit, s => { s with crc := crcInitValue }.respond 0
  | .crcUpd b, s => { s with crc := crcStep s.crc b }.respond 0
  | .frmBuild c, s => (s.buildFrame c).respond 0
  | .frmParse, s => s.parseFrame.respond 0
  | .chPack, s => (s.packRecord s.basicRecord).respond 0
  | .chUnpack, s => s.unpackBasic.respond 0
  | .dmrPack, s => (s.packRecord s.dmrRecord).respond 0
  | .dmrUnpack, s => s.unpackDmr.respond 0
  | .rsyStart, s => s.arm.respond 0
  | .rsyByte b, s => s.takeByte b
  | .rsyTmo, s => s.deadline
  | .illegal _, s => { s with ill := true }.respond 0
  | .cmd07, s => (s.buildFrame 0x07).respond 0
  | .cmd0A, s => (s.buildFrame 0x0A).respond 0
  | .cmd0B, s => (s.buildFrame 0x0B).respond 0
  | .cmd27, s => (s.buildFrame 0x27).respond 0
  | .cmd28, s => (s.buildFrame 0x28).respond 0
  | .cmd29, s => (s.buildFrame 0x29).respond 0
  | .cmd39, s => (s.buildFrame 0x39).respond 0
  | .cmd40, s => (s.buildFrame 0x40).respond 0
  | .cmd41, s => (s.buildFrame 0x41).respond 0
  | .cmd43, s => (s.buildFrame 0x43).respond 0
  | .cmd44, s => (s.buildFrame 0x44).respond 0

/-- Every instruction answers its next state. -/
theorem exec_eq_effect (i : Instr) (s : State) : exec i s = .next (effect i s) := by
  cases i <;> rfl

theorem exec_next_iff (i : Instr) (s t : State) : exec i s = .next t ↔ t = effect i s := by
  rw [exec_eq_effect]
  constructor
  · intro h; cases h; rfl
  · rintro rfl; rfl

/-- Every sequence of instructions answers the effects in turn. -/
theorem execAll_eq_foldl (is : List Instr) (s : State) :
    execAll is s = .next (is.foldl (fun t i => effect i t) s) := by
  induction is generalizing s with
  | nil => rfl
  | cons i is ih => simp only [execAll, exec_eq_effect]; exact ih _

/-- The three things a step can do. -/
theorem step_cases (s : State) :
    (s.inputs = [] ∧ step s = .next s) ∨
    (∃ p rest, s.inputs = .present p :: rest ∧ step s = .next (effect (decode p) { s with inputs := rest })) ∨
    (∃ rest, s.inputs = .resetEvent :: rest ∧ step s = .next { s with inputs := rest }.applyReset) := by
  unfold step
  split
  · next h => exact .inl ⟨h, rfl⟩
  · next p rest h => exact .inr (.inl ⟨p, rest, h, exec_eq_effect _ _⟩)
  · next rest h => exact .inr (.inr ⟨rest, h, rfl⟩)

end Sys2Proof.Machine
end

