-- ==== Sys2Proof/Laws/Frame.lean ====
section
/-! SUPPORT. The frame, its builder and its parser, and the record operations: lengths, and the outcomes of each operation as equations. -/

namespace Sys2Proof.Machine

/-! ### Lengths -/

@[simp] theorem crcCovered_length (c : Byte) (p : List Byte) : (crcCovered c p).length = p.length + 2 := rfl

@[simp] theorem build_length (c : Byte) (p : List Byte) : (build c p).length = p.length + 8 := by
  simp [build, magic, be16]

@[simp] theorem pbufBytes_length (s : State) (n : Nat) : (s.pbufBytes n).length = n := memReadBytes_length _ _ _

@[simp] theorem txbufBytes_length (s : State) (n : Nat) : (s.txbufBytes n).length = n := memReadBytes_length _ _ _

@[simp] theorem rxbufBytes_length (s : State) (n : Nat) : (s.rxbufBytes n).length = n := memReadBytes_length _ _ _

theorem State.nameChars_le (s : State) : s.nameChars ≤ nameMaxChars := Nat.min_le_right _ _

@[simp] theorem State.nameBytes_length (s : State) : s.nameBytes.length = nameFieldLen := by
  have h := s.nameChars_le
  simp only [nameMaxChars] at h
  simp only [State.nameBytes, List.length_append, List.length_map, memReadBytes_length, List.length_replicate,
    nameFieldLen]
  omega

@[simp] theorem State.basicRecord_length (s : State) : s.basicRecord.length = recLen := by
  simp only [State.basicRecord, List.length_append, State.nameBytes_length]
  rfl

@[simp] theorem State.dmrRecord_length (s : State) : s.dmrRecord.length = recLen := rfl

theorem State.fieldName_length_le (s : State) : s.fieldName.length ≤ nameFieldLen :=
  Nat.le_trans (List.takeWhile_sublist _).length_le (Nat.le_of_eq (memReadBytes_length _ _ _))

/-! ### Outcomes -/

/-- A payload that is too long: the result code and nothing else. -/
theorem State.buildFrame_long (c : Byte) (s : State) (h : 252 < s.pLen.toNat) : s.buildFrame c = s.report .tooLong :=
  if_pos h

/-- A payload that fits: the frame, its length and the result code. -/
theorem State.buildFrame_short (c : Byte) (s : State) (h : s.pLen.toNat ≤ 252) :
    s.buildFrame c =
      ({ s with
        mem := memWriteBytes s.mem txbufBase (build c (s.pbufBytes s.pLen.toNat))
        txLen := BitVec.ofNat 9 (s.pLen.toNat + 8) }).report .ok :=
  if_neg (Nat.not_lt.mpr h)

/-- A frame that parses carries `LEN - 3` payload bytes, at most 252, and its command in byte 5. -/
theorem parse_frame {buf : List Byte} {c : Byte} {p : List Byte} {v : Bool} (h : parse buf = .frame c p v) :
    c = buf.getD 5 0 ∧ p = (buf.drop 6).take ((buf.getD 4 0).toNat - 3) ∧ p.length = (buf.getD 4 0).toNat - 3 ∧
      p.length ≤ 252 := by
  unfold parse at h
  simp only [] at h
  split at h
  · cases h
  split at h
  · cases h
  split at h
  · cases h
  split at h
  · cases h
  cases h
  refine ⟨rfl, rfl, ?_, ?_⟩
  all_goals
    have hb := (buf.getD 4 0).isLt
    simp only [List.length_take, List.length_drop]
    omega

theorem State.unpackBasic_short (s : State) (h : s.pLen ≠ 26) : s.unpackBasic = s.report .recLen :=
  if_pos fun hn => h (BitVec.eq_of_toNat_eq hn)

theorem State.unpackBasic_record (s : State) (h : s.pLen = 26) : s.unpackBasic = s.loadBasic.unpackName.report .ok :=
  if_neg (by rw [h]; decide)

theorem State.unpackDmr_short (s : State) (h : s.pLen ≠ 26) : s.unpackDmr = s.report .recLen :=
  if_pos fun hn => h (BitVec.eq_of_toNat_eq hn)

theorem State.unpackDmr_record (s : State) (h : s.pLen = 26) : s.unpackDmr = s.loadDmr.report .ok :=
  if_neg (by rw [h]; decide)

end Sys2Proof.Machine
end

