-- ==== Sys2Proof/Laws/Frames.lean ====
section
/-! SUPPORT. What the shared operations with several outcomes leave unchanged, one lemma per field. -/

namespace Sys2Proof.Machine

/-! ### laneWrite -/

@[simp] theorem laneWrite_params (a : LaneAddr) (v : Byte) (s : State) : (laneWrite a v s).params = s.params := by
  unfold laneWrite; cases laneAt a <;> rfl
@[simp] theorem laneWrite_inputs (a : LaneAddr) (v : Byte) (s : State) : (laneWrite a v s).inputs = s.inputs := by
  unfold laneWrite; cases laneAt a <;> rfl
@[simp] theorem laneWrite_resp (a : LaneAddr) (v : Byte) (s : State) : (laneWrite a v s).resp = s.resp := by
  unfold laneWrite; cases laneAt a <;> rfl
@[simp] theorem laneWrite_freeCtr (a : LaneAddr) (v : Byte) (s : State) : (laneWrite a v s).freeCtr = s.freeCtr := by
  unfold laneWrite; cases laneAt a <;> rfl
@[simp] theorem laneWrite_crc (a : LaneAddr) (v : Byte) (s : State) : (laneWrite a v s).crc = s.crc := by
  unfold laneWrite; cases laneAt a <;> rfl
@[simp] theorem laneWrite_ptr (a : LaneAddr) (v : Byte) (s : State) : (laneWrite a v s).ptr = s.ptr := by
  unfold laneWrite; cases laneAt a <;> rfl
@[simp] theorem laneWrite_dout (a : LaneAddr) (v : Byte) (s : State) : (laneWrite a v s).dout = s.dout := by
  unfold laneWrite; cases laneAt a <;> rfl
@[simp] theorem laneWrite_crcOk (a : LaneAddr) (v : Byte) (s : State) : (laneWrite a v s).crcOk = s.crcOk := by
  unfold laneWrite; cases laneAt a <;> rfl
@[simp] theorem laneWrite_ill (a : LaneAddr) (v : Byte) (s : State) : (laneWrite a v s).ill = s.ill := by
  unfold laneWrite; cases laneAt a <;> rfl
@[simp] theorem laneWrite_noTerm (a : LaneAddr) (v : Byte) (s : State) : (laneWrite a v s).noTerm = s.noTerm := by
  unfold laneWrite; cases laneAt a <;> rfl
@[simp] theorem laneWrite_rstate (a : LaneAddr) (v : Byte) (s : State) : (laneWrite a v s).rstate = s.rstate := by
  unfold laneWrite; cases laneAt a <;> rfl
@[simp] theorem laneWrite_win (a : LaneAddr) (v : Byte) (s : State) : (laneWrite a v s).win = s.win := by
  unfold laneWrite; cases laneAt a <;> rfl
@[simp] theorem laneWrite_scanCnt (a : LaneAddr) (v : Byte) (s : State) : (laneWrite a v s).scanCnt = s.scanCnt := by
  unfold laneWrite; cases laneAt a <;> rfl
@[simp] theorem laneWrite_skip (a : LaneAddr) (v : Byte) (s : State) : (laneWrite a v s).skip = s.skip := by
  unfold laneWrite; cases laneAt a <;> rfl
@[simp] theorem laneWrite_lenR (a : LaneAddr) (v : Byte) (s : State) : (laneWrite a v s).lenR = s.lenR := by
  unfold laneWrite; cases laneAt a <;> rfl
@[simp] theorem laneWrite_bodyCnt (a : LaneAddr) (v : Byte) (s : State) : (laneWrite a v s).bodyCnt = s.bodyCnt := by
  unfold laneWrite; cases laneAt a <;> rfl
@[simp] theorem laneWrite_txLen (a : LaneAddr) (v : Byte) (s : State) : (laneWrite a v s).txLen = s.txLen := by
  unfold laneWrite; cases laneAt a <;> rfl
@[simp] theorem laneWrite_err (a : LaneAddr) (v : Byte) (s : State) : (laneWrite a v s).err = s.err := by
  unfold laneWrite; cases laneAt a <;> rfl

/-! ### buildFrame -/

@[simp] theorem State.buildFrame_params (s : State) (c : Byte) : (s.buildFrame c).params = s.params := by unfold State.buildFrame; dsimp only; split <;> rfl
@[simp] theorem State.buildFrame_inputs (s : State) (c : Byte) : (s.buildFrame c).inputs = s.inputs := by unfold State.buildFrame; dsimp only; split <;> rfl
@[simp] theorem State.buildFrame_resp (s : State) (c : Byte) : (s.buildFrame c).resp = s.resp := by unfold State.buildFrame; dsimp only; split <;> rfl
@[simp] theorem State.buildFrame_freeCtr (s : State) (c : Byte) : (s.buildFrame c).freeCtr = s.freeCtr := by unfold State.buildFrame; dsimp only; split <;> rfl
@[simp] theorem State.buildFrame_idx (s : State) (c : Byte) : (s.buildFrame c).idx = s.idx := by unfold State.buildFrame; dsimp only; split <;> rfl
@[simp] theorem State.buildFrame_rxMode (s : State) (c : Byte) : (s.buildFrame c).rxMode = s.rxMode := by unfold State.buildFrame; dsimp only; split <;> rfl
@[simp] theorem State.buildFrame_txMode (s : State) (c : Byte) : (s.buildFrame c).txMode = s.txMode := by unfold State.buildFrame; dsimp only; split <;> rfl
@[simp] theorem State.buildFrame_rxFreq (s : State) (c : Byte) : (s.buildFrame c).rxFreq = s.rxFreq := by unfold State.buildFrame; dsimp only; split <;> rfl
@[simp] theorem State.buildFrame_txFreq (s : State) (c : Byte) : (s.buildFrame c).txFreq = s.txFreq := by unfold State.buildFrame; dsimp only; split <;> rfl
@[simp] theorem State.buildFrame_rxTone (s : State) (c : Byte) : (s.buildFrame c).rxTone = s.rxTone := by unfold State.buildFrame; dsimp only; split <;> rfl
@[simp] theorem State.buildFrame_txTone (s : State) (c : Byte) : (s.buildFrame c).txTone = s.txTone := by unfold State.buildFrame; dsimp only; split <;> rfl
@[simp] theorem State.buildFrame_nameLen (s : State) (c : Byte) : (s.buildFrame c).nameLen = s.nameLen := by unfold State.buildFrame; dsimp only; split <;> rfl
@[simp] theorem State.buildFrame_rxCc (s : State) (c : Byte) : (s.buildFrame c).rxCc = s.rxCc := by unfold State.buildFrame; dsimp only; split <;> rfl
@[simp] theorem State.buildFrame_txCc (s : State) (c : Byte) : (s.buildFrame c).txCc = s.txCc := by unfold State.buildFrame; dsimp only; split <;> rfl
@[simp] theorem State.buildFrame_slot (s : State) (c : Byte) : (s.buildFrame c).slot = s.slot := by unfold State.buildFrame; dsimp only; split <;> rfl
@[simp] theorem State.buildFrame_callId (s : State) (c : Byte) : (s.buildFrame c).callId = s.callId := by unfold State.buildFrame; dsimp only; split <;> rfl
@[simp] theorem State.buildFrame_ownId (s : State) (c : Byte) : (s.buildFrame c).ownId = s.ownId := by unfold State.buildFrame; dsimp only; split <;> rfl
@[simp] theorem State.buildFrame_callFmt (s : State) (c : Byte) : (s.buildFrame c).callFmt = s.callFmt := by unfold State.buildFrame; dsimp only; split <;> rfl
@[simp] theorem State.buildFrame_crc (s : State) (c : Byte) : (s.buildFrame c).crc = s.crc := by unfold State.buildFrame; dsimp only; split <;> rfl
@[simp] theorem State.buildFrame_ptr (s : State) (c : Byte) : (s.buildFrame c).ptr = s.ptr := by unfold State.buildFrame; dsimp only; split <;> rfl
@[simp] theorem State.buildFrame_dout (s : State) (c : Byte) : (s.buildFrame c).dout = s.dout := by unfold State.buildFrame; dsimp only; split <;> rfl
@[simp] theorem State.buildFrame_crcOk (s : State) (c : Byte) : (s.buildFrame c).crcOk = s.crcOk := by unfold State.buildFrame; dsimp only; split <;> rfl
@[simp] theorem State.buildFrame_ill (s : State) (c : Byte) : (s.buildFrame c).ill = s.ill := by unfold State.buildFrame; dsimp only; split <;> rfl
@[simp] theorem State.buildFrame_noTerm (s : State) (c : Byte) : (s.buildFrame c).noTerm = s.noTerm := by unfold State.buildFrame; dsimp only; split <;> rfl
@[simp] theorem State.buildFrame_rstate (s : State) (c : Byte) : (s.buildFrame c).rstate = s.rstate := by unfold State.buildFrame; dsimp only; split <;> rfl
@[simp] theorem State.buildFrame_win (s : State) (c : Byte) : (s.buildFrame c).win = s.win := by unfold State.buildFrame; dsimp only; split <;> rfl
@[simp] theorem State.buildFrame_scanCnt (s : State) (c : Byte) : (s.buildFrame c).scanCnt = s.scanCnt := by unfold State.buildFrame; dsimp only; split <;> rfl
@[simp] theorem State.buildFrame_skip (s : State) (c : Byte) : (s.buildFrame c).skip = s.skip := by unfold State.buildFrame; dsimp only; split <;> rfl
@[simp] theorem State.buildFrame_lenR (s : State) (c : Byte) : (s.buildFrame c).lenR = s.lenR := by unfold State.buildFrame; dsimp only; split <;> rfl
@[simp] theorem State.buildFrame_bodyCnt (s : State) (c : Byte) : (s.buildFrame c).bodyCnt = s.bodyCnt := by unfold State.buildFrame; dsimp only; split <;> rfl
@[simp] theorem State.buildFrame_rxLen (s : State) (c : Byte) : (s.buildFrame c).rxLen = s.rxLen := by unfold State.buildFrame; dsimp only; split <;> rfl
@[simp] theorem State.buildFrame_cmdR (s : State) (c : Byte) : (s.buildFrame c).cmdR = s.cmdR := by unfold State.buildFrame; dsimp only; split <;> rfl
@[simp] theorem State.buildFrame_pLen (s : State) (c : Byte) : (s.buildFrame c).pLen = s.pLen := by unfold State.buildFrame; dsimp only; split <;> rfl

/-! ### parseFrame -/

@[simp] theorem State.parseFrame_params (s : State) : (s.parseFrame).params = s.params := by unfold State.parseFrame; split <;> rfl
@[simp] theorem State.parseFrame_inputs (s : State) : (s.parseFrame).inputs = s.inputs := by unfold State.parseFrame; split <;> rfl
@[simp] theorem State.parseFrame_resp (s : State) : (s.parseFrame).resp = s.resp := by unfold State.parseFrame; split <;> rfl
@[simp] theorem State.parseFrame_freeCtr (s : State) : (s.parseFrame).freeCtr = s.freeCtr := by unfold State.parseFrame; split <;> rfl
@[simp] theorem State.parseFrame_idx (s : State) : (s.parseFrame).idx = s.idx := by unfold State.parseFrame; split <;> rfl
@[simp] theorem State.parseFrame_rxMode (s : State) : (s.parseFrame).rxMode = s.rxMode := by unfold State.parseFrame; split <;> rfl
@[simp] theorem State.parseFrame_txMode (s : State) : (s.parseFrame).txMode = s.txMode := by unfold State.parseFrame; split <;> rfl
@[simp] theorem State.parseFrame_rxFreq (s : State) : (s.parseFrame).rxFreq = s.rxFreq := by unfold State.parseFrame; split <;> rfl
@[simp] theorem State.parseFrame_txFreq (s : State) : (s.parseFrame).txFreq = s.txFreq := by unfold State.parseFrame; split <;> rfl
@[simp] theorem State.parseFrame_rxTone (s : State) : (s.parseFrame).rxTone = s.rxTone := by unfold State.parseFrame; split <;> rfl
@[simp] theorem State.parseFrame_txTone (s : State) : (s.parseFrame).txTone = s.txTone := by unfold State.parseFrame; split <;> rfl
@[simp] theorem State.parseFrame_nameLen (s : State) : (s.parseFrame).nameLen = s.nameLen := by unfold State.parseFrame; split <;> rfl
@[simp] theorem State.parseFrame_rxCc (s : State) : (s.parseFrame).rxCc = s.rxCc := by unfold State.parseFrame; split <;> rfl
@[simp] theorem State.parseFrame_txCc (s : State) : (s.parseFrame).txCc = s.txCc := by unfold State.parseFrame; split <;> rfl
@[simp] theorem State.parseFrame_slot (s : State) : (s.parseFrame).slot = s.slot := by unfold State.parseFrame; split <;> rfl
@[simp] theorem State.parseFrame_callId (s : State) : (s.parseFrame).callId = s.callId := by unfold State.parseFrame; split <;> rfl
@[simp] theorem State.parseFrame_ownId (s : State) : (s.parseFrame).ownId = s.ownId := by unfold State.parseFrame; split <;> rfl
@[simp] theorem State.parseFrame_callFmt (s : State) : (s.parseFrame).callFmt = s.callFmt := by unfold State.parseFrame; split <;> rfl
@[simp] theorem State.parseFrame_crc (s : State) : (s.parseFrame).crc = s.crc := by unfold State.parseFrame; split <;> rfl
@[simp] theorem State.parseFrame_ptr (s : State) : (s.parseFrame).ptr = s.ptr := by unfold State.parseFrame; split <;> rfl
@[simp] theorem State.parseFrame_dout (s : State) : (s.parseFrame).dout = s.dout := by unfold State.parseFrame; split <;> rfl
@[simp] theorem State.parseFrame_ill (s : State) : (s.parseFrame).ill = s.ill := by unfold State.parseFrame; split <;> rfl
@[simp] theorem State.parseFrame_noTerm (s : State) : (s.parseFrame).noTerm = s.noTerm := by unfold State.parseFrame; split <;> rfl
@[simp] theorem State.parseFrame_rstate (s : State) : (s.parseFrame).rstate = s.rstate := by unfold State.parseFrame; split <;> rfl
@[simp] theorem State.parseFrame_win (s : State) : (s.parseFrame).win = s.win := by unfold State.parseFrame; split <;> rfl
@[simp] theorem State.parseFrame_scanCnt (s : State) : (s.parseFrame).scanCnt = s.scanCnt := by unfold State.parseFrame; split <;> rfl
@[simp] theorem State.parseFrame_skip (s : State) : (s.parseFrame).skip = s.skip := by unfold State.parseFrame; split <;> rfl
@[simp] theorem State.parseFrame_lenR (s : State) : (s.parseFrame).lenR = s.lenR := by unfold State.parseFrame; split <;> rfl
@[simp] theorem State.parseFrame_bodyCnt (s : State) : (s.parseFrame).bodyCnt = s.bodyCnt := by unfold State.parseFrame; split <;> rfl
@[simp] theorem State.parseFrame_rxLen (s : State) : (s.parseFrame).rxLen = s.rxLen := by unfold State.parseFrame; split <;> rfl
@[simp] theorem State.parseFrame_txLen (s : State) : (s.parseFrame).txLen = s.txLen := by unfold State.parseFrame; split <;> rfl

/-! ### unpackBasic -/

@[simp] theorem State.unpackBasic_params (s : State) : (s.unpackBasic).params = s.params := by unfold State.unpackBasic; split <;> rfl
@[simp] theorem State.unpackBasic_inputs (s : State) : (s.unpackBasic).inputs = s.inputs := by unfold State.unpackBasic; split <;> rfl
@[simp] theorem State.unpackBasic_resp (s : State) : (s.unpackBasic).resp = s.resp := by unfold State.unpackBasic; split <;> rfl
@[simp] theorem State.unpackBasic_freeCtr (s : State) : (s.unpackBasic).freeCtr = s.freeCtr := by unfold State.unpackBasic; split <;> rfl
@[simp] theorem State.unpackBasic_rxCc (s : State) : (s.unpackBasic).rxCc = s.rxCc := by unfold State.unpackBasic; split <;> rfl
@[simp] theorem State.unpackBasic_txCc (s : State) : (s.unpackBasic).txCc = s.txCc := by unfold State.unpackBasic; split <;> rfl
@[simp] theorem State.unpackBasic_slot (s : State) : (s.unpackBasic).slot = s.slot := by unfold State.unpackBasic; split <;> rfl
@[simp] theorem State.unpackBasic_callId (s : State) : (s.unpackBasic).callId = s.callId := by unfold State.unpackBasic; split <;> rfl
@[simp] theorem State.unpackBasic_ownId (s : State) : (s.unpackBasic).ownId = s.ownId := by unfold State.unpackBasic; split <;> rfl
@[simp] theorem State.unpackBasic_callFmt (s : State) : (s.unpackBasic).callFmt = s.callFmt := by unfold State.unpackBasic; split <;> rfl
@[simp] theorem State.unpackBasic_crc (s : State) : (s.unpackBasic).crc = s.crc := by unfold State.unpackBasic; split <;> rfl
@[simp] theorem State.unpackBasic_ptr (s : State) : (s.unpackBasic).ptr = s.ptr := by unfold State.unpackBasic; split <;> rfl
@[simp] theorem State.unpackBasic_dout (s : State) : (s.unpackBasic).dout = s.dout := by unfold State.unpackBasic; split <;> rfl
@[simp] theorem State.unpackBasic_crcOk (s : State) : (s.unpackBasic).crcOk = s.crcOk := by unfold State.unpackBasic; split <;> rfl
@[simp] theorem State.unpackBasic_ill (s : State) : (s.unpackBasic).ill = s.ill := by unfold State.unpackBasic; split <;> rfl
@[simp] theorem State.unpackBasic_rstate (s : State) : (s.unpackBasic).rstate = s.rstate := by unfold State.unpackBasic; split <;> rfl
@[simp] theorem State.unpackBasic_win (s : State) : (s.unpackBasic).win = s.win := by unfold State.unpackBasic; split <;> rfl
@[simp] theorem State.unpackBasic_scanCnt (s : State) : (s.unpackBasic).scanCnt = s.scanCnt := by unfold State.unpackBasic; split <;> rfl
@[simp] theorem State.unpackBasic_skip (s : State) : (s.unpackBasic).skip = s.skip := by unfold State.unpackBasic; split <;> rfl
@[simp] theorem State.unpackBasic_lenR (s : State) : (s.unpackBasic).lenR = s.lenR := by unfold State.unpackBasic; split <;> rfl
@[simp] theorem State.unpackBasic_bodyCnt (s : State) : (s.unpackBasic).bodyCnt = s.bodyCnt := by unfold State.unpackBasic; split <;> rfl
@[simp] theorem State.unpackBasic_rxLen (s : State) : (s.unpackBasic).rxLen = s.rxLen := by unfold State.unpackBasic; split <;> rfl
@[simp] theorem State.unpackBasic_txLen (s : State) : (s.unpackBasic).txLen = s.txLen := by unfold State.unpackBasic; split <;> rfl
@[simp] theorem State.unpackBasic_cmdR (s : State) : (s.unpackBasic).cmdR = s.cmdR := by unfold State.unpackBasic; split <;> rfl
@[simp] theorem State.unpackBasic_pLen (s : State) : (s.unpackBasic).pLen = s.pLen := by unfold State.unpackBasic; split <;> rfl

/-! ### unpackDmr -/

@[simp] theorem State.unpackDmr_params (s : State) : (s.unpackDmr).params = s.params := by unfold State.unpackDmr; split <;> rfl
@[simp] theorem State.unpackDmr_inputs (s : State) : (s.unpackDmr).inputs = s.inputs := by unfold State.unpackDmr; split <;> rfl
@[simp] theorem State.unpackDmr_resp (s : State) : (s.unpackDmr).resp = s.resp := by unfold State.unpackDmr; split <;> rfl
@[simp] theorem State.unpackDmr_freeCtr (s : State) : (s.unpackDmr).freeCtr = s.freeCtr := by unfold State.unpackDmr; split <;> rfl
@[simp] theorem State.unpackDmr_rxMode (s : State) : (s.unpackDmr).rxMode = s.rxMode := by unfold State.unpackDmr; split <;> rfl
@[simp] theorem State.unpackDmr_txMode (s : State) : (s.unpackDmr).txMode = s.txMode := by unfold State.unpackDmr; split <;> rfl
@[simp] theorem State.unpackDmr_rxFreq (s : State) : (s.unpackDmr).rxFreq = s.rxFreq := by unfold State.unpackDmr; split <;> rfl
@[simp] theorem State.unpackDmr_txFreq (s : State) : (s.unpackDmr).txFreq = s.txFreq := by unfold State.unpackDmr; split <;> rfl
@[simp] theorem State.unpackDmr_rxTone (s : State) : (s.unpackDmr).rxTone = s.rxTone := by unfold State.unpackDmr; split <;> rfl
@[simp] theorem State.unpackDmr_txTone (s : State) : (s.unpackDmr).txTone = s.txTone := by unfold State.unpackDmr; split <;> rfl
@[simp] theorem State.unpackDmr_nameLen (s : State) : (s.unpackDmr).nameLen = s.nameLen := by unfold State.unpackDmr; split <;> rfl
@[simp] theorem State.unpackDmr_crc (s : State) : (s.unpackDmr).crc = s.crc := by unfold State.unpackDmr; split <;> rfl
@[simp] theorem State.unpackDmr_ptr (s : State) : (s.unpackDmr).ptr = s.ptr := by unfold State.unpackDmr; split <;> rfl
@[simp] theorem State.unpackDmr_dout (s : State) : (s.unpackDmr).dout = s.dout := by unfold State.unpackDmr; split <;> rfl
@[simp] theorem State.unpackDmr_crcOk (s : State) : (s.unpackDmr).crcOk = s.crcOk := by unfold State.unpackDmr; split <;> rfl
@[simp] theorem State.unpackDmr_ill (s : State) : (s.unpackDmr).ill = s.ill := by unfold State.unpackDmr; split <;> rfl
@[simp] theorem State.unpackDmr_noTerm (s : State) : (s.unpackDmr).noTerm = s.noTerm := by unfold State.unpackDmr; split <;> rfl
@[simp] theorem State.unpackDmr_rstate (s : State) : (s.unpackDmr).rstate = s.rstate := by unfold State.unpackDmr; split <;> rfl
@[simp] theorem State.unpackDmr_win (s : State) : (s.unpackDmr).win = s.win := by unfold State.unpackDmr; split <;> rfl
@[simp] theorem State.unpackDmr_scanCnt (s : State) : (s.unpackDmr).scanCnt = s.scanCnt := by unfold State.unpackDmr; split <;> rfl
@[simp] theorem State.unpackDmr_skip (s : State) : (s.unpackDmr).skip = s.skip := by unfold State.unpackDmr; split <;> rfl
@[simp] theorem State.unpackDmr_lenR (s : State) : (s.unpackDmr).lenR = s.lenR := by unfold State.unpackDmr; split <;> rfl
@[simp] theorem State.unpackDmr_bodyCnt (s : State) : (s.unpackDmr).bodyCnt = s.bodyCnt := by unfold State.unpackDmr; split <;> rfl
@[simp] theorem State.unpackDmr_rxLen (s : State) : (s.unpackDmr).rxLen = s.rxLen := by unfold State.unpackDmr; split <;> rfl
@[simp] theorem State.unpackDmr_txLen (s : State) : (s.unpackDmr).txLen = s.txLen := by unfold State.unpackDmr; split <;> rfl
@[simp] theorem State.unpackDmr_cmdR (s : State) : (s.unpackDmr).cmdR = s.cmdR := by unfold State.unpackDmr; split <;> rfl
@[simp] theorem State.unpackDmr_pLen (s : State) : (s.unpackDmr).pLen = s.pLen := by unfold State.unpackDmr; split <;> rfl
@[simp] theorem State.unpackDmr_mem (s : State) : (s.unpackDmr).mem = s.mem := by unfold State.unpackDmr; split <;> rfl

/-! ### complete -/

@[simp] theorem State.complete_params (s : State) : (s.complete).params = s.params := by unfold State.complete; split <;> rfl
@[simp] theorem State.complete_inputs (s : State) : (s.complete).inputs = s.inputs := by unfold State.complete; split <;> rfl
@[simp] theorem State.complete_resp (s : State) : (s.complete).resp = s.resp := by unfold State.complete; split <;> rfl
@[simp] theorem State.complete_freeCtr (s : State) : (s.complete).freeCtr = s.freeCtr := by unfold State.complete; split <;> rfl
@[simp] theorem State.complete_idx (s : State) : (s.complete).idx = s.idx := by unfold State.complete; split <;> rfl
@[simp] theorem State.complete_rxMode (s : State) : (s.complete).rxMode = s.rxMode := by unfold State.complete; split <;> rfl
@[simp] theorem State.complete_txMode (s : State) : (s.complete).txMode = s.txMode := by unfold State.complete; split <;> rfl
@[simp] theorem State.complete_rxFreq (s : State) : (s.complete).rxFreq = s.rxFreq := by unfold State.complete; split <;> rfl
@[simp] theorem State.complete_txFreq (s : State) : (s.complete).txFreq = s.txFreq := by unfold State.complete; split <;> rfl
@[simp] theorem State.complete_rxTone (s : State) : (s.complete).rxTone = s.rxTone := by unfold State.complete; split <;> rfl
@[simp] theorem State.complete_txTone (s : State) : (s.complete).txTone = s.txTone := by unfold State.complete; split <;> rfl
@[simp] theorem State.complete_nameLen (s : State) : (s.complete).nameLen = s.nameLen := by unfold State.complete; split <;> rfl
@[simp] theorem State.complete_rxCc (s : State) : (s.complete).rxCc = s.rxCc := by unfold State.complete; split <;> rfl
@[simp] theorem State.complete_txCc (s : State) : (s.complete).txCc = s.txCc := by unfold State.complete; split <;> rfl
@[simp] theorem State.complete_slot (s : State) : (s.complete).slot = s.slot := by unfold State.complete; split <;> rfl
@[simp] theorem State.complete_callId (s : State) : (s.complete).callId = s.callId := by unfold State.complete; split <;> rfl
@[simp] theorem State.complete_ownId (s : State) : (s.complete).ownId = s.ownId := by unfold State.complete; split <;> rfl
@[simp] theorem State.complete_callFmt (s : State) : (s.complete).callFmt = s.callFmt := by unfold State.complete; split <;> rfl
@[simp] theorem State.complete_crc (s : State) : (s.complete).crc = s.crc := by unfold State.complete; split <;> rfl
@[simp] theorem State.complete_ptr (s : State) : (s.complete).ptr = s.ptr := by unfold State.complete; split <;> rfl
@[simp] theorem State.complete_dout (s : State) : (s.complete).dout = s.dout := by unfold State.complete; split <;> rfl
@[simp] theorem State.complete_ill (s : State) : (s.complete).ill = s.ill := by unfold State.complete; split <;> rfl
@[simp] theorem State.complete_noTerm (s : State) : (s.complete).noTerm = s.noTerm := by unfold State.complete; split <;> rfl
@[simp] theorem State.complete_win (s : State) : (s.complete).win = s.win := by unfold State.complete; split <;> rfl
@[simp] theorem State.complete_scanCnt (s : State) : (s.complete).scanCnt = s.scanCnt := by unfold State.complete; split <;> rfl
@[simp] theorem State.complete_skip (s : State) : (s.complete).skip = s.skip := by unfold State.complete; split <;> rfl
@[simp] theorem State.complete_lenR (s : State) : (s.complete).lenR = s.lenR := by unfold State.complete; split <;> rfl
@[simp] theorem State.complete_bodyCnt (s : State) : (s.complete).bodyCnt = s.bodyCnt := by unfold State.complete; split <;> rfl
@[simp] theorem State.complete_rxLen (s : State) : (s.complete).rxLen = s.rxLen := by unfold State.complete; split <;> rfl
@[simp] theorem State.complete_txLen (s : State) : (s.complete).txLen = s.txLen := by unfold State.complete; split <;> rfl

/-! ### growRxLen -/

@[simp] theorem State.growRxLen_params (s : State) : (s.growRxLen).params = s.params := by unfold State.growRxLen; split <;> rfl
@[simp] theorem State.growRxLen_inputs (s : State) : (s.growRxLen).inputs = s.inputs := by unfold State.growRxLen; split <;> rfl
@[simp] theorem State.growRxLen_resp (s : State) : (s.growRxLen).resp = s.resp := by unfold State.growRxLen; split <;> rfl
@[simp] theorem State.growRxLen_idx (s : State) : (s.growRxLen).idx = s.idx := by unfold State.growRxLen; split <;> rfl
@[simp] theorem State.growRxLen_rxMode (s : State) : (s.growRxLen).rxMode = s.rxMode := by unfold State.growRxLen; split <;> rfl
@[simp] theorem State.growRxLen_txMode (s : State) : (s.growRxLen).txMode = s.txMode := by unfold State.growRxLen; split <;> rfl
@[simp] theorem State.growRxLen_rxFreq (s : State) : (s.growRxLen).rxFreq = s.rxFreq := by unfold State.growRxLen; split <;> rfl
@[simp] theorem State.growRxLen_txFreq (s : State) : (s.growRxLen).txFreq = s.txFreq := by unfold State.growRxLen; split <;> rfl
@[simp] theorem State.growRxLen_rxTone (s : State) : (s.growRxLen).rxTone = s.rxTone := by unfold State.growRxLen; split <;> rfl
@[simp] theorem State.growRxLen_txTone (s : State) : (s.growRxLen).txTone = s.txTone := by unfold State.growRxLen; split <;> rfl
@[simp] theorem State.growRxLen_nameLen (s : State) : (s.growRxLen).nameLen = s.nameLen := by unfold State.growRxLen; split <;> rfl
@[simp] theorem State.growRxLen_rxCc (s : State) : (s.growRxLen).rxCc = s.rxCc := by unfold State.growRxLen; split <;> rfl
@[simp] theorem State.growRxLen_txCc (s : State) : (s.growRxLen).txCc = s.txCc := by unfold State.growRxLen; split <;> rfl
@[simp] theorem State.growRxLen_slot (s : State) : (s.growRxLen).slot = s.slot := by unfold State.growRxLen; split <;> rfl
@[simp] theorem State.growRxLen_callId (s : State) : (s.growRxLen).callId = s.callId := by unfold State.growRxLen; split <;> rfl
@[simp] theorem State.growRxLen_ownId (s : State) : (s.growRxLen).ownId = s.ownId := by unfold State.growRxLen; split <;> rfl
@[simp] theorem State.growRxLen_callFmt (s : State) : (s.growRxLen).callFmt = s.callFmt := by unfold State.growRxLen; split <;> rfl
@[simp] theorem State.growRxLen_crc (s : State) : (s.growRxLen).crc = s.crc := by unfold State.growRxLen; split <;> rfl
@[simp] theorem State.growRxLen_ptr (s : State) : (s.growRxLen).ptr = s.ptr := by unfold State.growRxLen; split <;> rfl
@[simp] theorem State.growRxLen_dout (s : State) : (s.growRxLen).dout = s.dout := by unfold State.growRxLen; split <;> rfl
@[simp] theorem State.growRxLen_crcOk (s : State) : (s.growRxLen).crcOk = s.crcOk := by unfold State.growRxLen; split <;> rfl
@[simp] theorem State.growRxLen_ill (s : State) : (s.growRxLen).ill = s.ill := by unfold State.growRxLen; split <;> rfl
@[simp] theorem State.growRxLen_noTerm (s : State) : (s.growRxLen).noTerm = s.noTerm := by unfold State.growRxLen; split <;> rfl
@[simp] theorem State.growRxLen_rstate (s : State) : (s.growRxLen).rstate = s.rstate := by unfold State.growRxLen; split <;> rfl
@[simp] theorem State.growRxLen_win (s : State) : (s.growRxLen).win = s.win := by unfold State.growRxLen; split <;> rfl
@[simp] theorem State.growRxLen_scanCnt (s : State) : (s.growRxLen).scanCnt = s.scanCnt := by unfold State.growRxLen; split <;> rfl
@[simp] theorem State.growRxLen_skip (s : State) : (s.growRxLen).skip = s.skip := by unfold State.growRxLen; split <;> rfl
@[simp] theorem State.growRxLen_lenR (s : State) : (s.growRxLen).lenR = s.lenR := by unfold State.growRxLen; split <;> rfl
@[simp] theorem State.growRxLen_bodyCnt (s : State) : (s.growRxLen).bodyCnt = s.bodyCnt := by unfold State.growRxLen; split <;> rfl
@[simp] theorem State.growRxLen_txLen (s : State) : (s.growRxLen).txLen = s.txLen := by unfold State.growRxLen; split <;> rfl
@[simp] theorem State.growRxLen_cmdR (s : State) : (s.growRxLen).cmdR = s.cmdR := by unfold State.growRxLen; split <;> rfl
@[simp] theorem State.growRxLen_pLen (s : State) : (s.growRxLen).pLen = s.pLen := by unfold State.growRxLen; split <;> rfl
@[simp] theorem State.growRxLen_err (s : State) : (s.growRxLen).err = s.err := by unfold State.growRxLen; split <;> rfl
@[simp] theorem State.growRxLen_mem (s : State) : (s.growRxLen).mem = s.mem := by unfold State.growRxLen; split <;> rfl

/-! ### scanned -/

@[simp] theorem State.scanned_params (s : State) : (s.scanned).params = s.params := by unfold State.scanned; split <;> (try split) <;> rfl
@[simp] theorem State.scanned_inputs (s : State) : (s.scanned).inputs = s.inputs := by unfold State.scanned; split <;> (try split) <;> rfl
@[simp] theorem State.scanned_resp (s : State) : (s.scanned).resp = s.resp := by unfold State.scanned; split <;> (try split) <;> rfl
@[simp] theorem State.scanned_freeCtr (s : State) : (s.scanned).freeCtr = s.freeCtr := by unfold State.scanned; split <;> (try split) <;> rfl
@[simp] theorem State.scanned_idx (s : State) : (s.scanned).idx = s.idx := by unfold State.scanned; split <;> (try split) <;> rfl
@[simp] theorem State.scanned_rxMode (s : State) : (s.scanned).rxMode = s.rxMode := by unfold State.scanned; split <;> (try split) <;> rfl
@[simp] theorem State.scanned_txMode (s : State) : (s.scanned).txMode = s.txMode := by unfold State.scanned; split <;> (try split) <;> rfl
@[simp] theorem State.scanned_rxFreq (s : State) : (s.scanned).rxFreq = s.rxFreq := by unfold State.scanned; split <;> (try split) <;> rfl
@[simp] theorem State.scanned_txFreq (s : State) : (s.scanned).txFreq = s.txFreq := by unfold State.scanned; split <;> (try split) <;> rfl
@[simp] theorem State.scanned_rxTone (s : State) : (s.scanned).rxTone = s.rxTone := by unfold State.scanned; split <;> (try split) <;> rfl
@[simp] theorem State.scanned_txTone (s : State) : (s.scanned).txTone = s.txTone := by unfold State.scanned; split <;> (try split) <;> rfl
@[simp] theorem State.scanned_nameLen (s : State) : (s.scanned).nameLen = s.nameLen := by unfold State.scanned; split <;> (try split) <;> rfl
@[simp] theorem State.scanned_rxCc (s : State) : (s.scanned).rxCc = s.rxCc := by unfold State.scanned; split <;> (try split) <;> rfl
@[simp] theorem State.scanned_txCc (s : State) : (s.scanned).txCc = s.txCc := by unfold State.scanned; split <;> (try split) <;> rfl
@[simp] theorem State.scanned_slot (s : State) : (s.scanned).slot = s.slot := by unfold State.scanned; split <;> (try split) <;> rfl
@[simp] theorem State.scanned_callId (s : State) : (s.scanned).callId = s.callId := by unfold State.scanned; split <;> (try split) <;> rfl
@[simp] theorem State.scanned_ownId (s : State) : (s.scanned).ownId = s.ownId := by unfold State.scanned; split <;> (try split) <;> rfl
@[simp] theorem State.scanned_callFmt (s : State) : (s.scanned).callFmt = s.callFmt := by unfold State.scanned; split <;> (try split) <;> rfl
@[simp] theorem State.scanned_crc (s : State) : (s.scanned).crc = s.crc := by unfold State.scanned; split <;> (try split) <;> rfl
@[simp] theorem State.scanned_ptr (s : State) : (s.scanned).ptr = s.ptr := by unfold State.scanned; split <;> (try split) <;> rfl
@[simp] theorem State.scanned_dout (s : State) : (s.scanned).dout = s.dout := by unfold State.scanned; split <;> (try split) <;> rfl
@[simp] theorem State.scanned_ill (s : State) : (s.scanned).ill = s.ill := by unfold State.scanned; split <;> (try split) <;> rfl
@[simp] theorem State.scanned_noTerm (s : State) : (s.scanned).noTerm = s.noTerm := by unfold State.scanned; split <;> (try split) <;> rfl
@[simp] theorem State.scanned_win (s : State) : (s.scanned).win = s.win := by unfold State.scanned; split <;> (try split) <;> rfl
@[simp] theorem State.scanned_scanCnt (s : State) : (s.scanned).scanCnt = s.scanCnt := by unfold State.scanned; split <;> (try split) <;> rfl
@[simp] theorem State.scanned_lenR (s : State) : (s.scanned).lenR = s.lenR := by unfold State.scanned; split <;> (try split) <;> rfl
@[simp] theorem State.scanned_bodyCnt (s : State) : (s.scanned).bodyCnt = s.bodyCnt := by unfold State.scanned; split <;> (try split) <;> rfl
@[simp] theorem State.scanned_txLen (s : State) : (s.scanned).txLen = s.txLen := by unfold State.scanned; split <;> (try split) <;> rfl
@[simp] theorem State.scanned_cmdR (s : State) : (s.scanned).cmdR = s.cmdR := by unfold State.scanned; split <;> (try split) <;> rfl
@[simp] theorem State.scanned_pLen (s : State) : (s.scanned).pLen = s.pLen := by unfold State.scanned; split <;> (try split) <;> rfl

/-! ### huntByte -/

@[simp] theorem State.huntByte_params (s : State) (b : Byte) : (s.huntByte b).params = s.params := by simp [State.huntByte]
@[simp] theorem State.huntByte_inputs (s : State) (b : Byte) : (s.huntByte b).inputs = s.inputs := by simp [State.huntByte]
@[simp] theorem State.huntByte_resp (s : State) (b : Byte) : (s.huntByte b).resp = s.resp := by simp [State.huntByte]
@[simp] theorem State.huntByte_freeCtr (s : State) (b : Byte) : (s.huntByte b).freeCtr = s.freeCtr := by simp [State.huntByte]
@[simp] theorem State.huntByte_idx (s : State) (b : Byte) : (s.huntByte b).idx = s.idx := by simp [State.huntByte]
@[simp] theorem State.huntByte_rxMode (s : State) (b : Byte) : (s.huntByte b).rxMode = s.rxMode := by simp [State.huntByte]
@[simp] theorem State.huntByte_txMode (s : State) (b : Byte) : (s.huntByte b).txMode = s.txMode := by simp [State.huntByte]
@[simp] theorem State.huntByte_rxFreq (s : State) (b : Byte) : (s.huntByte b).rxFreq = s.rxFreq := by simp [State.huntByte]
@[simp] theorem State.huntByte_txFreq (s : State) (b : Byte) : (s.huntByte b).txFreq = s.txFreq := by simp [State.huntByte]
@[simp] theorem State.huntByte_rxTone (s : State) (b : Byte) : (s.huntByte b).rxTone = s.rxTone := by simp [State.huntByte]
@[simp] theorem State.huntByte_txTone (s : State) (b : Byte) : (s.huntByte b).txTone = s.txTone := by simp [State.huntByte]
@[simp] theorem State.huntByte_nameLen (s : State) (b : Byte) : (s.huntByte b).nameLen = s.nameLen := by simp [State.huntByte]
@[simp] theorem State.huntByte_rxCc (s : State) (b : Byte) : (s.huntByte b).rxCc = s.rxCc := by simp [State.huntByte]
@[simp] theorem State.huntByte_txCc (s : State) (b : Byte) : (s.huntByte b).txCc = s.txCc := by simp [State.huntByte]
@[simp] theorem State.huntByte_slot (s : State) (b : Byte) : (s.huntByte b).slot = s.slot := by simp [State.huntByte]
@[simp] theorem State.huntByte_callId (s : State) (b : Byte) : (s.huntByte b).callId = s.callId := by simp [State.huntByte]
@[simp] theorem State.huntByte_ownId (s : State) (b : Byte) : (s.huntByte b).ownId = s.ownId := by simp [State.huntByte]
@[simp] theorem State.huntByte_callFmt (s : State) (b : Byte) : (s.huntByte b).callFmt = s.callFmt := by simp [State.huntByte]
@[simp] theorem State.huntByte_crc (s : State) (b : Byte) : (s.huntByte b).crc = s.crc := by simp [State.huntByte]
@[simp] theorem State.huntByte_ptr (s : State) (b : Byte) : (s.huntByte b).ptr = s.ptr := by simp [State.huntByte]
@[simp] theorem State.huntByte_dout (s : State) (b : Byte) : (s.huntByte b).dout = s.dout := by simp [State.huntByte]
@[simp] theorem State.huntByte_ill (s : State) (b : Byte) : (s.huntByte b).ill = s.ill := by simp [State.huntByte]
@[simp] theorem State.huntByte_noTerm (s : State) (b : Byte) : (s.huntByte b).noTerm = s.noTerm := by simp [State.huntByte]
@[simp] theorem State.huntByte_lenR (s : State) (b : Byte) : (s.huntByte b).lenR = s.lenR := by simp [State.huntByte]
@[simp] theorem State.huntByte_bodyCnt (s : State) (b : Byte) : (s.huntByte b).bodyCnt = s.bodyCnt := by simp [State.huntByte]
@[simp] theorem State.huntByte_txLen (s : State) (b : Byte) : (s.huntByte b).txLen = s.txLen := by simp [State.huntByte]
@[simp] theorem State.huntByte_cmdR (s : State) (b : Byte) : (s.huntByte b).cmdR = s.cmdR := by simp [State.huntByte]
@[simp] theorem State.huntByte_pLen (s : State) (b : Byte) : (s.huntByte b).pLen = s.pLen := by simp [State.huntByte]

/-! ### lenByte -/

@[simp] theorem State.lenByte_params (s : State) (b : Byte) : (s.lenByte b).params = s.params := by unfold State.lenByte; split <;> simp
@[simp] theorem State.lenByte_inputs (s : State) (b : Byte) : (s.lenByte b).inputs = s.inputs := by unfold State.lenByte; split <;> simp
@[simp] theorem State.lenByte_resp (s : State) (b : Byte) : (s.lenByte b).resp = s.resp := by unfold State.lenByte; split <;> simp
@[simp] theorem State.lenByte_freeCtr (s : State) (b : Byte) : (s.lenByte b).freeCtr = s.freeCtr := by unfold State.lenByte; split <;> simp
@[simp] theorem State.lenByte_idx (s : State) (b : Byte) : (s.lenByte b).idx = s.idx := by unfold State.lenByte; split <;> simp
@[simp] theorem State.lenByte_rxMode (s : State) (b : Byte) : (s.lenByte b).rxMode = s.rxMode := by unfold State.lenByte; split <;> simp
@[simp] theorem State.lenByte_txMode (s : State) (b : Byte) : (s.lenByte b).txMode = s.txMode := by unfold State.lenByte; split <;> simp
@[simp] theorem State.lenByte_rxFreq (s : State) (b : Byte) : (s.lenByte b).rxFreq = s.rxFreq := by unfold State.lenByte; split <;> simp
@[simp] theorem State.lenByte_txFreq (s : State) (b : Byte) : (s.lenByte b).txFreq = s.txFreq := by unfold State.lenByte; split <;> simp
@[simp] theorem State.lenByte_rxTone (s : State) (b : Byte) : (s.lenByte b).rxTone = s.rxTone := by unfold State.lenByte; split <;> simp
@[simp] theorem State.lenByte_txTone (s : State) (b : Byte) : (s.lenByte b).txTone = s.txTone := by unfold State.lenByte; split <;> simp
@[simp] theorem State.lenByte_nameLen (s : State) (b : Byte) : (s.lenByte b).nameLen = s.nameLen := by unfold State.lenByte; split <;> simp
@[simp] theorem State.lenByte_rxCc (s : State) (b : Byte) : (s.lenByte b).rxCc = s.rxCc := by unfold State.lenByte; split <;> simp
@[simp] theorem State.lenByte_txCc (s : State) (b : Byte) : (s.lenByte b).txCc = s.txCc := by unfold State.lenByte; split <;> simp
@[simp] theorem State.lenByte_slot (s : State) (b : Byte) : (s.lenByte b).slot = s.slot := by unfold State.lenByte; split <;> simp
@[simp] theorem State.lenByte_callId (s : State) (b : Byte) : (s.lenByte b).callId = s.callId := by unfold State.lenByte; split <;> simp
@[simp] theorem State.lenByte_ownId (s : State) (b : Byte) : (s.lenByte b).ownId = s.ownId := by unfold State.lenByte; split <;> simp
@[simp] theorem State.lenByte_callFmt (s : State) (b : Byte) : (s.lenByte b).callFmt = s.callFmt := by unfold State.lenByte; split <;> simp
@[simp] theorem State.lenByte_crc (s : State) (b : Byte) : (s.lenByte b).crc = s.crc := by unfold State.lenByte; split <;> simp
@[simp] theorem State.lenByte_ptr (s : State) (b : Byte) : (s.lenByte b).ptr = s.ptr := by unfold State.lenByte; split <;> simp
@[simp] theorem State.lenByte_dout (s : State) (b : Byte) : (s.lenByte b).dout = s.dout := by unfold State.lenByte; split <;> simp
@[simp] theorem State.lenByte_ill (s : State) (b : Byte) : (s.lenByte b).ill = s.ill := by unfold State.lenByte; split <;> simp
@[simp] theorem State.lenByte_noTerm (s : State) (b : Byte) : (s.lenByte b).noTerm = s.noTerm := by unfold State.lenByte; split <;> simp
@[simp] theorem State.lenByte_win (s : State) (b : Byte) : (s.lenByte b).win = s.win := by unfold State.lenByte; split <;> simp
@[simp] theorem State.lenByte_scanCnt (s : State) (b : Byte) : (s.lenByte b).scanCnt = s.scanCnt := by unfold State.lenByte; split <;> simp
@[simp] theorem State.lenByte_skip (s : State) (b : Byte) : (s.lenByte b).skip = s.skip := by unfold State.lenByte; split <;> simp
@[simp] theorem State.lenByte_txLen (s : State) (b : Byte) : (s.lenByte b).txLen = s.txLen := by unfold State.lenByte; split <;> simp

/-! ### collect -/

@[simp] theorem State.collect_params (s : State) (b : Byte) : (s.collect b).params = s.params := by simp [State.collect]
@[simp] theorem State.collect_inputs (s : State) (b : Byte) : (s.collect b).inputs = s.inputs := by simp [State.collect]
@[simp] theorem State.collect_resp (s : State) (b : Byte) : (s.collect b).resp = s.resp := by simp [State.collect]
@[simp] theorem State.collect_idx (s : State) (b : Byte) : (s.collect b).idx = s.idx := by simp [State.collect]
@[simp] theorem State.collect_rxMode (s : State) (b : Byte) : (s.collect b).rxMode = s.rxMode := by simp [State.collect]
@[simp] theorem State.collect_txMode (s : State) (b : Byte) : (s.collect b).txMode = s.txMode := by simp [State.collect]
@[simp] theorem State.collect_rxFreq (s : State) (b : Byte) : (s.collect b).rxFreq = s.rxFreq := by simp [State.collect]
@[simp] theorem State.collect_txFreq (s : State) (b : Byte) : (s.collect b).txFreq = s.txFreq := by simp [State.collect]
@[simp] theorem State.collect_rxTone (s : State) (b : Byte) : (s.collect b).rxTone = s.rxTone := by simp [State.collect]
@[simp] theorem State.collect_txTone (s : State) (b : Byte) : (s.collect b).txTone = s.txTone := by simp [State.collect]
@[simp] theorem State.collect_nameLen (s : State) (b : Byte) : (s.collect b).nameLen = s.nameLen := by simp [State.collect]
@[simp] theorem State.collect_rxCc (s : State) (b : Byte) : (s.collect b).rxCc = s.rxCc := by simp [State.collect]
@[simp] theorem State.collect_txCc (s : State) (b : Byte) : (s.collect b).txCc = s.txCc := by simp [State.collect]
@[simp] theorem State.collect_slot (s : State) (b : Byte) : (s.collect b).slot = s.slot := by simp [State.collect]
@[simp] theorem State.collect_callId (s : State) (b : Byte) : (s.collect b).callId = s.callId := by simp [State.collect]
@[simp] theorem State.collect_ownId (s : State) (b : Byte) : (s.collect b).ownId = s.ownId := by simp [State.collect]
@[simp] theorem State.collect_callFmt (s : State) (b : Byte) : (s.collect b).callFmt = s.callFmt := by simp [State.collect]
@[simp] theorem State.collect_crc (s : State) (b : Byte) : (s.collect b).crc = s.crc := by simp [State.collect]
@[simp] theorem State.collect_ptr (s : State) (b : Byte) : (s.collect b).ptr = s.ptr := by simp [State.collect]
@[simp] theorem State.collect_dout (s : State) (b : Byte) : (s.collect b).dout = s.dout := by simp [State.collect]
@[simp] theorem State.collect_crcOk (s : State) (b : Byte) : (s.collect b).crcOk = s.crcOk := by simp [State.collect]
@[simp] theorem State.collect_ill (s : State) (b : Byte) : (s.collect b).ill = s.ill := by simp [State.collect]
@[simp] theorem State.collect_noTerm (s : State) (b : Byte) : (s.collect b).noTerm = s.noTerm := by simp [State.collect]
@[simp] theorem State.collect_rstate (s : State) (b : Byte) : (s.collect b).rstate = s.rstate := by simp [State.collect]
@[simp] theorem State.collect_win (s : State) (b : Byte) : (s.collect b).win = s.win := by simp [State.collect]
@[simp] theorem State.collect_scanCnt (s : State) (b : Byte) : (s.collect b).scanCnt = s.scanCnt := by simp [State.collect]
@[simp] theorem State.collect_skip (s : State) (b : Byte) : (s.collect b).skip = s.skip := by simp [State.collect]
@[simp] theorem State.collect_lenR (s : State) (b : Byte) : (s.collect b).lenR = s.lenR := by simp [State.collect]
@[simp] theorem State.collect_txLen (s : State) (b : Byte) : (s.collect b).txLen = s.txLen := by simp [State.collect]
@[simp] theorem State.collect_cmdR (s : State) (b : Byte) : (s.collect b).cmdR = s.cmdR := by simp [State.collect]
@[simp] theorem State.collect_pLen (s : State) (b : Byte) : (s.collect b).pLen = s.pLen := by simp [State.collect]
@[simp] theorem State.collect_err (s : State) (b : Byte) : (s.collect b).err = s.err := by simp [State.collect]

/-! ### bodyByte -/

@[simp] theorem State.bodyByte_params (s : State) (b : Byte) : (s.bodyByte b).params = s.params := by unfold State.bodyByte; split <;> simp
@[simp] theorem State.bodyByte_inputs (s : State) (b : Byte) : (s.bodyByte b).inputs = s.inputs := by unfold State.bodyByte; split <;> simp
@[simp] theorem State.bodyByte_resp (s : State) (b : Byte) : (s.bodyByte b).resp = s.resp := by unfold State.bodyByte; split <;> simp
@[simp] theorem State.bodyByte_idx (s : State) (b : Byte) : (s.bodyByte b).idx = s.idx := by unfold State.bodyByte; split <;> simp
@[simp] theorem State.bodyByte_rxMode (s : State) (b : Byte) : (s.bodyByte b).rxMode = s.rxMode := by unfold State.bodyByte; split <;> simp
@[simp] theorem State.bodyByte_txMode (s : State) (b : Byte) : (s.bodyByte b).txMode = s.txMode := by unfold State.bodyByte; split <;> simp
@[simp] theorem State.bodyByte_rxFreq (s : State) (b : Byte) : (s.bodyByte b).rxFreq = s.rxFreq := by unfold State.bodyByte; split <;> simp
@[simp] theorem State.bodyByte_txFreq (s : State) (b : Byte) : (s.bodyByte b).txFreq = s.txFreq := by unfold State.bodyByte; split <;> simp
@[simp] theorem State.bodyByte_rxTone (s : State) (b : Byte) : (s.bodyByte b).rxTone = s.rxTone := by unfold State.bodyByte; split <;> simp
@[simp] theorem State.bodyByte_txTone (s : State) (b : Byte) : (s.bodyByte b).txTone = s.txTone := by unfold State.bodyByte; split <;> simp
@[simp] theorem State.bodyByte_nameLen (s : State) (b : Byte) : (s.bodyByte b).nameLen = s.nameLen := by unfold State.bodyByte; split <;> simp
@[simp] theorem State.bodyByte_rxCc (s : State) (b : Byte) : (s.bodyByte b).rxCc = s.rxCc := by unfold State.bodyByte; split <;> simp
@[simp] theorem State.bodyByte_txCc (s : State) (b : Byte) : (s.bodyByte b).txCc = s.txCc := by unfold State.bodyByte; split <;> simp
@[simp] theorem State.bodyByte_slot (s : State) (b : Byte) : (s.bodyByte b).slot = s.slot := by unfold State.bodyByte; split <;> simp
@[simp] theorem State.bodyByte_callId (s : State) (b : Byte) : (s.bodyByte b).callId = s.callId := by unfold State.bodyByte; split <;> simp
@[simp] theorem State.bodyByte_ownId (s : State) (b : Byte) : (s.bodyByte b).ownId = s.ownId := by unfold State.bodyByte; split <;> simp
@[simp] theorem State.bodyByte_callFmt (s : State) (b : Byte) : (s.bodyByte b).callFmt = s.callFmt := by unfold State.bodyByte; split <;> simp
@[simp] theorem State.bodyByte_crc (s : State) (b : Byte) : (s.bodyByte b).crc = s.crc := by unfold State.bodyByte; split <;> simp
@[simp] theorem State.bodyByte_ptr (s : State) (b : Byte) : (s.bodyByte b).ptr = s.ptr := by unfold State.bodyByte; split <;> simp
@[simp] theorem State.bodyByte_dout (s : State) (b : Byte) : (s.bodyByte b).dout = s.dout := by unfold State.bodyByte; split <;> simp
@[simp] theorem State.bodyByte_ill (s : State) (b : Byte) : (s.bodyByte b).ill = s.ill := by unfold State.bodyByte; split <;> simp
@[simp] theorem State.bodyByte_noTerm (s : State) (b : Byte) : (s.bodyByte b).noTerm = s.noTerm := by unfold State.bodyByte; split <;> simp
@[simp] theorem State.bodyByte_win (s : State) (b : Byte) : (s.bodyByte b).win = s.win := by unfold State.bodyByte; split <;> simp
@[simp] theorem State.bodyByte_scanCnt (s : State) (b : Byte) : (s.bodyByte b).scanCnt = s.scanCnt := by unfold State.bodyByte; split <;> simp
@[simp] theorem State.bodyByte_skip (s : State) (b : Byte) : (s.bodyByte b).skip = s.skip := by unfold State.bodyByte; split <;> simp
@[simp] theorem State.bodyByte_lenR (s : State) (b : Byte) : (s.bodyByte b).lenR = s.lenR := by unfold State.bodyByte; split <;> simp
@[simp] theorem State.bodyByte_txLen (s : State) (b : Byte) : (s.bodyByte b).txLen = s.txLen := by unfold State.bodyByte; split <;> simp

/-! ### takeByte -/

@[simp] theorem State.takeByte_params (s : State) (b : Byte) : (s.takeByte b).params = s.params := by unfold State.takeByte; split <;> simp
@[simp] theorem State.takeByte_inputs (s : State) (b : Byte) : (s.takeByte b).inputs = s.inputs := by unfold State.takeByte; split <;> simp
@[simp] theorem State.takeByte_idx (s : State) (b : Byte) : (s.takeByte b).idx = s.idx := by unfold State.takeByte; split <;> simp
@[simp] theorem State.takeByte_rxMode (s : State) (b : Byte) : (s.takeByte b).rxMode = s.rxMode := by unfold State.takeByte; split <;> simp
@[simp] theorem State.takeByte_txMode (s : State) (b : Byte) : (s.takeByte b).txMode = s.txMode := by unfold State.takeByte; split <;> simp
@[simp] theorem State.takeByte_rxFreq (s : State) (b : Byte) : (s.takeByte b).rxFreq = s.rxFreq := by unfold State.takeByte; split <;> simp
@[simp] theorem State.takeByte_txFreq (s : State) (b : Byte) : (s.takeByte b).txFreq = s.txFreq := by unfold State.takeByte; split <;> simp
@[simp] theorem State.takeByte_rxTone (s : State) (b : Byte) : (s.takeByte b).rxTone = s.rxTone := by unfold State.takeByte; split <;> simp
@[simp] theorem State.takeByte_txTone (s : State) (b : Byte) : (s.takeByte b).txTone = s.txTone := by unfold State.takeByte; split <;> simp
@[simp] theorem State.takeByte_nameLen (s : State) (b : Byte) : (s.takeByte b).nameLen = s.nameLen := by unfold State.takeByte; split <;> simp
@[simp] theorem State.takeByte_rxCc (s : State) (b : Byte) : (s.takeByte b).rxCc = s.rxCc := by unfold State.takeByte; split <;> simp
@[simp] theorem State.takeByte_txCc (s : State) (b : Byte) : (s.takeByte b).txCc = s.txCc := by unfold State.takeByte; split <;> simp
@[simp] theorem State.takeByte_slot (s : State) (b : Byte) : (s.takeByte b).slot = s.slot := by unfold State.takeByte; split <;> simp
@[simp] theorem State.takeByte_callId (s : State) (b : Byte) : (s.takeByte b).callId = s.callId := by unfold State.takeByte; split <;> simp
@[simp] theorem State.takeByte_ownId (s : State) (b : Byte) : (s.takeByte b).ownId = s.ownId := by unfold State.takeByte; split <;> simp
@[simp] theorem State.takeByte_callFmt (s : State) (b : Byte) : (s.takeByte b).callFmt = s.callFmt := by unfold State.takeByte; split <;> simp
@[simp] theorem State.takeByte_crc (s : State) (b : Byte) : (s.takeByte b).crc = s.crc := by unfold State.takeByte; split <;> simp
@[simp] theorem State.takeByte_ptr (s : State) (b : Byte) : (s.takeByte b).ptr = s.ptr := by unfold State.takeByte; split <;> simp
@[simp] theorem State.takeByte_dout (s : State) (b : Byte) : (s.takeByte b).dout = s.dout := by unfold State.takeByte; split <;> simp
@[simp] theorem State.takeByte_ill (s : State) (b : Byte) : (s.takeByte b).ill = s.ill := by unfold State.takeByte; split <;> simp
@[simp] theorem State.takeByte_noTerm (s : State) (b : Byte) : (s.takeByte b).noTerm = s.noTerm := by unfold State.takeByte; split <;> simp
@[simp] theorem State.takeByte_txLen (s : State) (b : Byte) : (s.takeByte b).txLen = s.txLen := by unfold State.takeByte; split <;> simp

/-! ### deadline -/

@[simp] theorem State.deadline_params (s : State) : (s.deadline).params = s.params := by unfold State.deadline; split <;> rfl
@[simp] theorem State.deadline_inputs (s : State) : (s.deadline).inputs = s.inputs := by unfold State.deadline; split <;> rfl
@[simp] theorem State.deadline_freeCtr (s : State) : (s.deadline).freeCtr = s.freeCtr := by unfold State.deadline; split <;> rfl
@[simp] theorem State.deadline_idx (s : State) : (s.deadline).idx = s.idx := by unfold State.deadline; split <;> rfl
@[simp] theorem State.deadline_rxMode (s : State) : (s.deadline).rxMode = s.rxMode := by unfold State.deadline; split <;> rfl
@[simp] theorem State.deadline_txMode (s : State) : (s.deadline).txMode = s.txMode := by unfold State.deadline; split <;> rfl
@[simp] theorem State.deadline_rxFreq (s : State) : (s.deadline).rxFreq = s.rxFreq := by unfold State.deadline; split <;> rfl
@[simp] theorem State.deadline_txFreq (s : State) : (s.deadline).txFreq = s.txFreq := by unfold State.deadline; split <;> rfl
@[simp] theorem State.deadline_rxTone (s : State) : (s.deadline).rxTone = s.rxTone := by unfold State.deadline; split <;> rfl
@[simp] theorem State.deadline_txTone (s : State) : (s.deadline).txTone = s.txTone := by unfold State.deadline; split <;> rfl
@[simp] theorem State.deadline_nameLen (s : State) : (s.deadline).nameLen = s.nameLen := by unfold State.deadline; split <;> rfl
@[simp] theorem State.deadline_rxCc (s : State) : (s.deadline).rxCc = s.rxCc := by unfold State.deadline; split <;> rfl
@[simp] theorem State.deadline_txCc (s : State) : (s.deadline).txCc = s.txCc := by unfold State.deadline; split <;> rfl
@[simp] theorem State.deadline_slot (s : State) : (s.deadline).slot = s.slot := by unfold State.deadline; split <;> rfl
@[simp] theorem State.deadline_callId (s : State) : (s.deadline).callId = s.callId := by unfold State.deadline; split <;> rfl
@[simp] theorem State.deadline_ownId (s : State) : (s.deadline).ownId = s.ownId := by unfold State.deadline; split <;> rfl
@[simp] theorem State.deadline_callFmt (s : State) : (s.deadline).callFmt = s.callFmt := by unfold State.deadline; split <;> rfl
@[simp] theorem State.deadline_crc (s : State) : (s.deadline).crc = s.crc := by unfold State.deadline; split <;> rfl
@[simp] theorem State.deadline_ptr (s : State) : (s.deadline).ptr = s.ptr := by unfold State.deadline; split <;> rfl
@[simp] theorem State.deadline_dout (s : State) : (s.deadline).dout = s.dout := by unfold State.deadline; split <;> rfl
@[simp] theorem State.deadline_ill (s : State) : (s.deadline).ill = s.ill := by unfold State.deadline; split <;> rfl
@[simp] theorem State.deadline_noTerm (s : State) : (s.deadline).noTerm = s.noTerm := by unfold State.deadline; split <;> rfl
@[simp] theorem State.deadline_win (s : State) : (s.deadline).win = s.win := by unfold State.deadline; split <;> rfl
@[simp] theorem State.deadline_scanCnt (s : State) : (s.deadline).scanCnt = s.scanCnt := by unfold State.deadline; split <;> rfl
@[simp] theorem State.deadline_skip (s : State) : (s.deadline).skip = s.skip := by unfold State.deadline; split <;> rfl
@[simp] theorem State.deadline_lenR (s : State) : (s.deadline).lenR = s.lenR := by unfold State.deadline; split <;> rfl
@[simp] theorem State.deadline_bodyCnt (s : State) : (s.deadline).bodyCnt = s.bodyCnt := by unfold State.deadline; split <;> rfl
@[simp] theorem State.deadline_rxLen (s : State) : (s.deadline).rxLen = s.rxLen := by unfold State.deadline; split <;> rfl
@[simp] theorem State.deadline_txLen (s : State) : (s.deadline).txLen = s.txLen := by unfold State.deadline; split <;> rfl
@[simp] theorem State.deadline_cmdR (s : State) : (s.deadline).cmdR = s.cmdR := by unfold State.deadline; split <;> rfl
@[simp] theorem State.deadline_pLen (s : State) : (s.deadline).pLen = s.pLen := by unfold State.deadline; split <;> rfl
@[simp] theorem State.deadline_mem (s : State) : (s.deadline).mem = s.mem := by unfold State.deadline; split <;> rfl

end Sys2Proof.Machine
end

