-- ==== Sys2Proof/Laws/Lanes.lean ====
section
/-! SUPPORT. The lane space: which lane each address is, that no two addresses share a lane, and what reading a lane after writing a lane gives. -/

namespace Sys2Proof.Machine

/-! ### The lane of each address -/

@[simp] theorem laneAt_000 : laneAt 0x000#12 = .idxh := rfl
@[simp] theorem laneAt_001 : laneAt 0x001#12 = .idxl := rfl
@[simp] theorem laneAt_002 : laneAt 0x002#12 = .rxmode := rfl
@[simp] theorem laneAt_003 : laneAt 0x003#12 = .txmode := rfl
@[simp] theorem laneAt_004 : laneAt 0x004#12 = .rxfreq1 := rfl
@[simp] theorem laneAt_005 : laneAt 0x005#12 = .rxfreq2 := rfl
@[simp] theorem laneAt_006 : laneAt 0x006#12 = .rxfreq3 := rfl
@[simp] theorem laneAt_007 : laneAt 0x007#12 = .rxfreq4 := rfl
@[simp] theorem laneAt_008 : laneAt 0x008#12 = .txfreq1 := rfl
@[simp] theorem laneAt_009 : laneAt 0x009#12 = .txfreq2 := rfl
@[simp] theorem laneAt_00A : laneAt 0x00A#12 = .txfreq3 := rfl
@[simp] theorem laneAt_00B : laneAt 0x00B#12 = .txfreq4 := rfl
@[simp] theorem laneAt_00C : laneAt 0x00C#12 = .rxtone := rfl
@[simp] theorem laneAt_00D : laneAt 0x00D#12 = .txtone := rfl
@[simp] theorem laneAt_00E : laneAt 0x00E#12 = .rxcc := rfl
@[simp] theorem laneAt_00F : laneAt 0x00F#12 = .txcc := rfl
@[simp] theorem laneAt_010 : laneAt 0x010#12 = .slot := rfl
@[simp] theorem laneAt_011 : laneAt 0x011#12 = .callfmt := rfl
@[simp] theorem laneAt_012 : laneAt 0x012#12 = .callid1 := rfl
@[simp] theorem laneAt_013 : laneAt 0x013#12 = .callid2 := rfl
@[simp] theorem laneAt_014 : laneAt 0x014#12 = .callid3 := rfl
@[simp] theorem laneAt_015 : laneAt 0x015#12 = .callid4 := rfl
@[simp] theorem laneAt_016 : laneAt 0x016#12 = .ownid1 := rfl
@[simp] theorem laneAt_017 : laneAt 0x017#12 = .ownid2 := rfl
@[simp] theorem laneAt_018 : laneAt 0x018#12 = .ownid3 := rfl
@[simp] theorem laneAt_019 : laneAt 0x019#12 = .ownid4 := rfl
@[simp] theorem laneAt_01A : laneAt 0x01A#12 = .namelen := rfl
@[simp] theorem laneAt_040 : laneAt 0x040#12 = .stat := rfl
@[simp] theorem laneAt_041 : laneAt 0x041#12 = .err := rfl
@[simp] theorem laneAt_042 : laneAt 0x042#12 = .crch := rfl
@[simp] theorem laneAt_043 : laneAt 0x043#12 = .crcl := rfl
@[simp] theorem laneAt_044 : laneAt 0x044#12 = .cmdr := rfl
@[simp] theorem laneAt_045 : laneAt 0x045#12 = .plen := rfl
@[simp] theorem laneAt_046 : laneAt 0x046#12 = .txlenh := rfl
@[simp] theorem laneAt_047 : laneAt 0x047#12 = .txlenl := rfl
@[simp] theorem laneAt_048 : laneAt 0x048#12 = .rxlenh := rfl
@[simp] theorem laneAt_049 : laneAt 0x049#12 = .rxlenl := rfl
@[simp] theorem laneAt_04A : laneAt 0x04A#12 = .rstate := rfl
@[simp] theorem laneAt_04B : laneAt 0x04B#12 = .lenr := rfl
@[simp] theorem laneAt_04C : laneAt 0x04C#12 = .bodycnt := rfl
@[simp] theorem laneAt_04D : laneAt 0x04D#12 = .scanh := rfl
@[simp] theorem laneAt_04E : laneAt 0x04E#12 = .scanl := rfl
@[simp] theorem laneAt_04F : laneAt 0x04F#12 = .skiph := rfl
@[simp] theorem laneAt_050 : laneAt 0x050#12 = .skipl := rfl
@[simp] theorem laneAt_051 : laneAt 0x051#12 = .win3 := rfl
@[simp] theorem laneAt_052 : laneAt 0x052#12 = .win2 := rfl
@[simp] theorem laneAt_053 : laneAt 0x053#12 = .win1 := rfl
@[simp] theorem laneAt_054 : laneAt 0x054#12 = .win0 := rfl
@[simp] theorem laneAt_055 : laneAt 0x055#12 = .dout := rfl

theorem laneAt_namech (a : LaneAddr) (h : 0x020 ≤ a.toNat ∧ a.toNat < 0x040) : laneAt a = .namech (a.toNat - 0x020) :=
  if_pos (by simp only [namechBase, namechSize]; omega)

theorem laneAt_pbuf (a : LaneAddr) (h : 0x100 ≤ a.toNat ∧ a.toNat < 0x1FC) : laneAt a = .pbuf (a.toNat - 0x100) :=
  (if_neg (by simp only [namechBase, namechSize]; omega)).trans (if_pos (by simp only [pbufBase, pbufSize]; omega))

/-- Above the payload buffer two ranges are left to ask for. -/
theorem laneAt_from_txbuf (a : LaneAddr) (h : 0x1FC ≤ a.toNat) :
    laneAt a =
      if 0x200 ≤ a.toNat ∧ a.toNat < 0x304 then .txbuf (a.toNat - 0x200)
      else if 0x400 ≤ a.toNat ∧ a.toNat < 0x600 then .rxbuf (a.toNat - 0x400)
      else lowLane a.toNat :=
  (if_neg (by simp only [namechBase, namechSize]; omega)).trans
    (if_neg (by simp only [pbufBase, pbufSize]; omega))

theorem laneAt_txbuf (a : LaneAddr) (h : 0x200 ≤ a.toNat ∧ a.toNat < 0x304) : laneAt a = .txbuf (a.toNat - 0x200) := by
  rw [laneAt_from_txbuf a (by omega), if_pos h]

theorem laneAt_rxbuf (a : LaneAddr) (h : 0x400 ≤ a.toNat ∧ a.toNat < 0x600) : laneAt a = .rxbuf (a.toNat - 0x400) := by
  rw [laneAt_from_txbuf a (by omega), if_neg (by omega), if_pos h]

/-- Outside the four arrays the lane is a low one. -/
theorem laneAt_low (a : LaneAddr)
    (h : ¬(0x020 ≤ a.toNat ∧ a.toNat < 0x040) ∧ ¬(0x100 ≤ a.toNat ∧ a.toNat < 0x1FC) ∧
      ¬(0x200 ≤ a.toNat ∧ a.toNat < 0x304) ∧ ¬(0x400 ≤ a.toNat ∧ a.toNat < 0x600)) :
    laneAt a = lowLane a.toNat :=
  (if_neg h.1).trans ((if_neg h.2.1).trans ((if_neg h.2.2.1).trans (if_neg h.2.2.2)))

theorem lowLane_unmapped (a : Nat) (h : 0x056 ≤ a ∨ (0x01B ≤ a ∧ a < 0x040)) : lowLane a = .unmapped := by
  unfold lowLane
  split <;> first | rfl | (exfalso; omega)

theorem laneAt_unmapped (a : LaneAddr)
    (h : (0x01B ≤ a.toNat ∧ a.toNat < 0x020) ∨ (0x056 ≤ a.toNat ∧ a.toNat < 0x100) ∨
      (0x1FC ≤ a.toNat ∧ a.toNat < 0x200) ∨ (0x304 ≤ a.toNat ∧ a.toNat < 0x400) ∨ 0x600 ≤ a.toNat) :
    laneAt a = .unmapped := by
  rw [laneAt_low a (by omega), lowLane_unmapped a.toNat (by omega)]

/-- The address of a lane. -/
def Lane.address : Lane → Nat
  | .idxh => 0x000
  | .idxl => 0x001
  | .rxmode => 0x002
  | .txmode => 0x003
  | .rxfreq1 => 0x004
  | .rxfreq2 => 0x005
  | .rxfreq3 => 0x006
  | .rxfreq4 => 0x007
  | .txfreq1 => 0x008
  | .txfreq2 => 0x009
  | .txfreq3 => 0x00A
  | .txfreq4 => 0x00B
  | .rxtone => 0x00C
  | .txtone => 0x00D
  | .rxcc => 0x00E
  | .txcc => 0x00F
  | .slot => 0x010
  | .callfmt => 0x011
  | .callid1 => 0x012
  | .callid2 => 0x013
  | .callid3 => 0x014
  | .callid4 => 0x015
  | .ownid1 => 0x016
  | .ownid2 => 0x017
  | .ownid3 => 0x018
  | .ownid4 => 0x019
  | .namelen => 0x01A
  | .stat => 0x040
  | .err => 0x041
  | .crch => 0x042
  | .crcl => 0x043
  | .cmdr => 0x044
  | .plen => 0x045
  | .txlenh => 0x046
  | .txlenl => 0x047
  | .rxlenh => 0x048
  | .rxlenl => 0x049
  | .rstate => 0x04A
  | .lenr => 0x04B
  | .bodycnt => 0x04C
  | .scanh => 0x04D
  | .scanl => 0x04E
  | .skiph => 0x04F
  | .skipl => 0x050
  | .win3 => 0x051
  | .win2 => 0x052
  | .win1 => 0x053
  | .win0 => 0x054
  | .dout => 0x055
  | .namech i => namechBase + i
  | .pbuf i => pbufBase + i
  | .txbuf i => txbufBase + i
  | .rxbuf i => rxbufBase + i
  | .unmapped => 0x1000

theorem lowLane_address (a : Nat) (h : lowLane a ≠ .unmapped) : (lowLane a).address = a := by
  by_cases ha : a < 0x056
  · revert h
    exact (show ∀ b < 0x056, lowLane b ≠ .unmapped → (lowLane b).address = b by decide) a ha
  · exact absurd (lowLane_unmapped a (by omega)) h

/-- A mapped address is the address of its lane. -/
theorem laneAt_address (a : LaneAddr) (h : laneAt a ≠ .unmapped) : (laneAt a).address = a.toNat := by
  unfold laneAt at h ⊢
  simp only [] at h ⊢
  split
  · simp only [Lane.address]; omega
  · split
    · simp only [Lane.address]; omega
    · split
      · simp only [Lane.address]; omega
      · split
        · simp only [Lane.address]; omega
        · exact lowLane_address _ (by simpa [*] using h)

/-- The indices that occur in lanes are within the arrays. -/
def Lane.inRange : Lane → Prop
  | .namech i => i < namechSize
  | .pbuf i => i < pbufSize
  | .txbuf i => i < txbufSize
  | .rxbuf i => i < rxbufSize
  | _ => True

theorem lowLane_inRange (a : Nat) : (lowLane a).inRange := by
  unfold lowLane
  split <;> trivial

theorem laneAt_inRange (a : LaneAddr) : (laneAt a).inRange := by
  unfold laneAt
  simp only []
  split
  · simp only [Lane.inRange, namechBase, namechSize] at *; omega
  · split
    · simp only [Lane.inRange, pbufBase, pbufSize] at *; omega
    · split
      · simp only [Lane.inRange, txbufBase, txbufSize] at *; omega
      · split
        · simp only [Lane.inRange, rxbufBase, rxbufSize] at *; omega
        · exact lowLane_inRange _

/-- Two mapped addresses with one lane are one address. -/
theorem laneAt_injective {a b : LaneAddr} (h : laneAt a = laneAt b) (ha : laneAt a ≠ .unmapped) : a = b := by
  have h1 := laneAt_address a ha
  have h2 := laneAt_address b (h ▸ ha)
  apply BitVec.eq_of_toNat_eq
  rw [← h1, ← h2, h]

/-! ### Reading after writing -/

@[simp] theorem rxLenHigh_get (v : Byte) (x : Len) :
    (((v.extractLsb' 0 1) ++ (x.extractLsb' 0 8) : Len).extractLsb' 8 1).setWidth 8 = v &&& 1 := by
  have h : ((v.extractLsb' 0 1) ++ (x.extractLsb' 0 8) : Len).extractLsb' 8 1 = v.extractLsb' 0 1 := by
    apply BitVec.eq_of_getLsbD_eq; intro i hi
    have h := BitVec.getLsbD_append (x := v.extractLsb' 0 1) (y := x.extractLsb' 0 8) (i := 8 + i)
    rw [BitVec.getLsbD_extractLsb']
    refine (congrArg _ h).trans ?_
    simp [hi]
  rw [h]; clear h; revert v; decide

theorem rxLenHigh_keeps (v : Byte) (x : Len) :
    ((v.extractLsb' 0 1) ++ (x.extractLsb' 0 8) : Len).extractLsb' 0 8 = x.extractLsb' 0 8 := by
  apply BitVec.eq_of_getLsbD_eq; intro i hi
  have h := BitVec.getLsbD_append (x := v.extractLsb' 0 1) (y := x.extractLsb' 0 8) (i := 0 + i)
  rw [BitVec.getLsbD_extractLsb']
  refine (congrArg _ h).trans ?_
  simp [hi]

theorem rxLenLow_get (v : Byte) (x : Len) :
    ((x.extractLsb' 8 1) ++ v : Len).extractLsb' 0 8 = v := by
  apply BitVec.eq_of_getLsbD_eq; intro i hi
  have h := BitVec.getLsbD_append (x := x.extractLsb' 8 1) (y := v) (i := 0 + i)
  rw [BitVec.getLsbD_extractLsb']
  refine (congrArg _ h).trans ?_
  simp [hi]

theorem rxLenLow_keeps (v : Byte) (x : Len) :
    ((x.extractLsb' 8 1) ++ v : Len).extractLsb' 8 1 = x.extractLsb' 8 1 := by
  apply BitVec.eq_of_getLsbD_eq; intro i hi
  have h := BitVec.getLsbD_append (x := x.extractLsb' 8 1) (y := v) (i := 8 + i)
  rw [BitVec.getLsbD_extractLsb']
  refine (congrArg _ h).trans ?_
  simp [hi]

/-- A writable lane but `RXLENH` reads as the byte written to it. -/
theorem Lane.get_put_self (l : Lane) (v : Byte) (s : State) (hw : l.writable = true) (hr : l ≠ .rxlenh) :
    l.get (l.put v s) = v := by
  cases l <;> simp [Lane.writable] at hw hr <;>
    simp [Lane.get, Lane.put, setHi16, setLo16, setByte32, rxLenLow_get, State.namech, State.pbuf, State.rxbuf,
      memRead_writeBytes]

/-- `RXLENH` reads as bit 0 of the byte written to it. -/
theorem Lane.get_put_rxlenh (v : Byte) (s : State) : Lane.rxlenh.get (Lane.rxlenh.put v s) = v &&& 1 := by
  simp [Lane.get, Lane.put]

/-- A lane that is not writable is left as it is, and so is everything else. -/
theorem Lane.put_readOnly (l : Lane) (v : Byte) (s : State) (hw : l.writable = false) : l.put v s = s := by
  cases l <;> simp [Lane.writable] at hw <;> rfl

/-- Which of the four arrays a lane lies in decides its address: bytes of the memory under different lanes are apart. -/
theorem Lane.get_put_other (l l' : Lane) (v : Byte) (s : State) (hne : l' ≠ l) (hs : l' ≠ .stat) (hr : l.inRange)
    (hr' : l'.inRange) : l'.get (l.put v s) = l'.get s := by
  by_cases hw : l.writable = false
  · rw [Lane.put_readOnly l v s hw]
  cases l <;> first | exact absurd rfl hw | skip
  all_goals cases l' <;> first
    | rfl
    | (exfalso; exact hne rfl)
    | (exfalso; exact hs rfl)
    | (simp [Lane.get, Lane.put, setHi16, setLo16, setByte32]; done)
    | (simp [Lane.get, Lane.put, rxLenHigh_keeps, rxLenLow_keeps]; done)
    | (simp only [Lane.get, Lane.put, State.namech, State.pbuf, State.txbuf, State.rxbuf, State.store_mem]
       simp only [Lane.inRange, namechSize, pbufSize, txbufSize, rxbufSize, ne_eq, Lane.namech.injEq, Lane.pbuf.injEq,
         Lane.rxbuf.injEq] at hr hr' hne
       rw [memRead_writeBytes_out]
       simp only [namechBase, pbufBase, txbufBase, rxbufBase, List.length_singleton]
       omega)

end Sys2Proof.Machine
end

