-- ==== Sys2Proof/Laws/PerInstr.lean ====
section
/-! SUPPORT. One lemma per instruction: its encoding carries the bits its row of spec/opcode_table.json fixes. -/

namespace Sys2Proof.Laws.RowBits

/-- A 16-bit word that carries a row's fixed bits. -/
abbrev Carries (mask bits : Half) (p : PortItem) : Prop :=
  match p with
  | .word w => w &&& mask = bits
  | .wire _ => False

/-- The row's fixed bits stand in the encoding: under the row's mask of an operation word, or in the whole of a wire
command byte. The row of the illegal words gives `OPC = 0xF`; the words that R104 adds to it have other bits, so what
an illegal word carries is that R104 holds of it. -/
def Statement : Instr → Prop
  | .nop => Carries 0xFFFF 0x0000 (encode .nop)
  | .sel x => Carries 0xF000 0x1000 (encode (.sel x))
  | .wrb x => Carries 0xFF00 0x2000 (encode (.wrb x))
  | .rdb => Carries 0xFFFF 0x3000 (encode .rdb)
  | .crcInit => Carries 0xFFFF 0x4000 (encode .crcInit)
  | .crcUpd x => Carries 0xFF00 0x5000 (encode (.crcUpd x))
  | .frmBuild x => Carries 0xFF00 0x6000 (encode (.frmBuild x))
  | .frmParse => Carries 0xFFFF 0x7000 (encode .frmParse)
  | .chPack => Carries 0xFFFF 0x8000 (encode .chPack)
  | .chUnpack => Carries 0xFFFF 0x9000 (encode .chUnpack)
  | .dmrPack => Carries 0xFFFF 0xA000 (encode .dmrPack)
  | .dmrUnpack => Carries 0xFFFF 0xB000 (encode .dmrUnpack)
  | .rsyStart => Carries 0xFFFF 0xC000 (encode .rsyStart)
  | .rsyByte x => Carries 0xFF00 0xD000 (encode (.rsyByte x))
  | .rsyTmo => Carries 0xFFFF 0xE000 (encode .rsyTmo)
  | .illegal w => illegalWord w = true → encode (.illegal w) = .word w ∧ (w &&& 0xF000 = 0xF000 ∨ w &&& 0x0FFF ≠ 0)
  | .cmd07 => encode .cmd07 = .wire 0x07
  | .cmd0A => encode .cmd0A = .wire 0x0A
  | .cmd0B => encode .cmd0B = .wire 0x0B
  | .cmd27 => encode .cmd27 = .wire 0x27
  | .cmd28 => encode .cmd28 = .wire 0x28
  | .cmd29 => encode .cmd29 = .wire 0x29
  | .cmd39 => encode .cmd39 = .wire 0x39
  | .cmd40 => encode .cmd40 = .wire 0x40
  | .cmd41 => encode .cmd41 = .wire 0x41
  | .cmd43 => encode .cmd43 = .wire 0x43
  | .cmd44 => encode .cmd44 = .wire 0x44

theorem top_append (o : BitVec 4) (a : LaneAddr) : (o ++ a : Half) &&& 0xF000 = o ++ (0 : LaneAddr) := by
  have h : (0xF000 : Half) = (0xF : BitVec 4) ++ (0 : LaneAddr) := by decide
  rw [h]
  refine (BitVec.and_append (x₁ := o) (x₂ := (0xF : BitVec 4)) (y₁ := a) (y₂ := 0)).trans ?_
  rw [show a &&& 0 = 0 from BitVec.and_zero, show o &&& 0xF = o by revert o; decide]

theorem byte_operand (o : BitVec 4) (b : Byte) : Carries 0xFF00 (o ++ (0 : LaneAddr)) (wordB o b) := by
  have h : (0xFF00 : Half) = (0xF : BitVec 4) ++ ((0xF : BitVec 4) ++ (0 : Byte)) := by decide
  show (o ++ ((0 : BitVec 4) ++ b) : Half) &&& 0xFF00 = o ++ (0 : LaneAddr)
  rw [h]
  refine (BitVec.and_append (x₁ := o) (x₂ := (0xF : BitVec 4)) (y₁ := (0 : BitVec 4) ++ b)).trans ?_
  refine congr (congrArg _ (show o &&& 0xF = o by revert o; decide)) ?_
  refine (BitVec.and_append (x₁ := (0 : BitVec 4)) (x₂ := (0xF : BitVec 4)) (y₁ := b)).trans ?_
  rw [show b &&& 0 = 0 from BitVec.and_zero]
  decide

theorem illegal_without_argument (w : Half) (h : illegalWord w = true) (hw : w &&& 0x0FFF = 0) :
    w &&& 0xF000 = 0xF000 := by
  have e : w = w.extractLsb' 12 4 ++ (0 : LaneAddr) := by
    apply BitVec.eq_of_getLsbD_eq
    intro i hi
    have ha := BitVec.getLsbD_append (x := w.extractLsb' 12 4) (y := (0 : LaneAddr)) (i := i)
    refine Eq.trans ?_ ha.symm
    split
    · next hlt =>
      have hz := congrArg (fun v => v.getLsbD i) hw
      have hm : (0x0FFF : Half).getLsbD i = true :=
        (show ∀ j < 12, (0x0FFF : Half).getLsbD j = true by decide) i hlt
      simp only [BitVec.getLsbD_and, hm, Bool.and_true] at hz
      exact hz.trans (by simp)
    · next hge => simp [show i - 12 < 4 by omega, show 12 + (i - 12) = i by omega]
  rw [e] at h ⊢
  generalize w.extractLsb' 12 4 = o at h ⊢
  revert h; revert o; decide

theorem nop : Statement .nop := show _ = _ by decide

theorem sel (a : LaneAddr) : Statement (.sel a) := top_append _ _

theorem wrb (x : Byte) : Statement (.wrb x) := byte_operand _ x

theorem rdb : Statement .rdb := show _ = _ by decide

theorem crcInit : Statement .crcInit := show _ = _ by decide

theorem crcUpd (x : Byte) : Statement (.crcUpd x) := byte_operand _ x

theorem frmBuild (x : Byte) : Statement (.frmBuild x) := byte_operand _ x

theorem frmParse : Statement .frmParse := show _ = _ by decide

theorem chPack : Statement .chPack := show _ = _ by decide

theorem chUnpack : Statement .chUnpack := show _ = _ by decide

theorem dmrPack : Statement .dmrPack := show _ = _ by decide

theorem dmrUnpack : Statement .dmrUnpack := show _ = _ by decide

theorem rsyStart : Statement .rsyStart := show _ = _ by decide

theorem rsyByte (x : Byte) : Statement (.rsyByte x) := byte_operand _ x

theorem rsyTmo : Statement .rsyTmo := show _ = _ by decide

theorem illegal (w : Half) : Statement (.illegal w) := by
  intro h
  refine ⟨rfl, ?_⟩
  by_cases hw : w &&& 0x0FFF = 0
  · exact .inl (illegal_without_argument w h hw)
  · exact .inr hw

theorem cmd07 : Statement .cmd07 := rfl

theorem cmd0A : Statement .cmd0A := rfl

theorem cmd0B : Statement .cmd0B := rfl

theorem cmd27 : Statement .cmd27 := rfl

theorem cmd28 : Statement .cmd28 := rfl

theorem cmd29 : Statement .cmd29 := rfl

theorem cmd39 : Statement .cmd39 := rfl

theorem cmd40 : Statement .cmd40 := rfl

theorem cmd41 : Statement .cmd41 := rfl

theorem cmd43 : Statement .cmd43 := rfl

theorem cmd44 : Statement .cmd44 := rfl

end Sys2Proof.Laws.RowBits
end

