-- ==== Sys2Proof/Laws/Resync.lean ====
section
/-! SUPPORT. The resynchronizer: what an offered byte and the deadline do in each state, as equations. -/

namespace Sys2Proof.Machine

theorem State.takeByte_idle {s : State} (b : Byte) (h : s.rstate = .idle) : s.takeByte b = s.respond 0 := by
  simp only [State.takeByte, h]

theorem State.takeByte_done {s : State} (b : Byte) (h : s.rstate = .done) : s.takeByte b = s.respond 0 := by
  simp only [State.takeByte, h]

theorem State.takeByte_hunt {s : State} (b : Byte) (h : s.rstate = .hunt) : s.takeByte b = (s.huntByte b).respond 1 := by
  simp only [State.takeByte, h]

theorem State.takeByte_len {s : State} (b : Byte) (h : s.rstate = .len) : s.takeByte b = (s.lenByte b).respond 1 := by
  simp only [State.takeByte, h]

theorem State.takeByte_body {s : State} (b : Byte) (h : s.rstate = .body) : s.takeByte b = (s.bodyByte b).respond 1 := by
  simp only [State.takeByte, h]

theorem State.deadline_armed {s : State} (h : s.rstate = .hunt ∨ s.rstate = .len ∨ s.rstate = .body) :
    s.deadline = s.expire.respond 1 := by
  rcases h with h | h | h <;> simp only [State.deadline, h]

theorem State.deadline_unarmed {s : State} (h : s.rstate = .idle ∨ s.rstate = .done) : s.deadline = s.respond 0 := by
  rcases h with h | h <;> simp only [State.deadline, h]

theorem State.huntByte_match {s : State} {b : Byte} (h : shiftWindow s.win b = magicWindow) :
    s.huntByte b = (s.slide b).matchFound := if_pos h

theorem State.huntByte_exhausted {s : State} {b : Byte} (h : shiftWindow s.win b ≠ magicWindow)
    (hc : s.scanCnt + 1 = s.params.maxScan) : s.huntByte b = (s.slide b).scanExhausted :=
  (if_neg h).trans (if_pos hc)

theorem State.huntByte_goes_on {s : State} {b : Byte} (h : shiftWindow s.win b ≠ magicWindow)
    (hc : s.scanCnt + 1 ≠ s.params.maxScan) : s.huntByte b = s.slide b :=
  (if_neg h).trans (if_neg hc)

/-- The length byte alone is too little for a frame. -/
theorem State.lenByte_zero (s : State) :
    s.lenByte 0 = { (s.takeLen 0).rejectFrame with rstate := .done } := rfl

theorem State.lenByte_pos {s : State} {b : Byte} (h : b ≠ 0) : s.lenByte b = (s.takeLen b).enterBody := if_neg h

/-- The two outcomes of `complete`. -/
theorem State.complete_malformed {s : State} (h : parse (s.rxbufBytes s.rxLen.toNat) = .malformed) :
    s.complete = { s.rejectFrame with rstate := .done } := by
  unfold State.complete; rw [h]

theorem State.complete_frame {s : State} {c : Byte} {p : List Byte} {v : Bool}
    (h : parse (s.rxbufBytes s.rxLen.toNat) = .frame c p v) :
    s.complete = { (s.deliver c p v).report (if v then .ok else .crcMismatch) with rstate := .done } := by
  unfold State.complete; rw [h]

@[simp] theorem State.complete_rstate (s : State) : s.complete.rstate = .done := by
  unfold State.complete; split <;> rfl

/-- The resynchronizer is receiving, or it is not. -/
theorem State.armed_or_not (s : State) :
    (s.rstate = .hunt ∨ s.rstate = .len ∨ s.rstate = .body) ∨ (s.rstate = .idle ∨ s.rstate = .done) := by
  cases s.rstate <;> decide

/-- `complete` delivers below the receive buffer. -/
theorem State.complete_mem_above (s : State) (a : Nat) (h : 0x1FC ≤ a) : memRead s.complete.mem a = memRead s.mem a := by
  cases hp : parse (s.rxbufBytes s.rxLen.toNat) with
  | malformed => rw [State.complete_malformed hp]; rfl
  | frame c p v =>
    rw [State.complete_frame hp]
    have hl := (parse_frame hp).2.2.2
    exact memRead_writeBytes_out _ _ _ _ (by simp only [pbufBase]; omega)

/-- Where the length of what was received fits, it grows by one. -/
theorem State.collect_eq {s : State} (b : Byte) (h : s.rxLen ≠ 511) :
    s.collect b = { s with
      mem := memWriteBytes s.mem (rxbufBase + 5 + s.bodyCnt.toNat) [b], bodyCnt := s.bodyCnt + 1, rxLen := s.rxLen + 1 } :=
  if_neg h

theorem State.collect_full {s : State} (b : Byte) (h : s.rxLen = 511) :
    s.collect b = { s with
      mem := memWriteBytes s.mem (rxbufBase + 5 + s.bodyCnt.toNat) [b], bodyCnt := s.bodyCnt + 1,
      rxLen := Config.rxLenPastEnd s.freeCtr, freeCtr := s.freeCtr + 1 } :=
  if_pos h

@[simp] theorem State.collect_bodyCnt (s : State) (b : Byte) : (s.collect b).bodyCnt = s.bodyCnt + 1 := by
  by_cases h : s.rxLen = 511
  · rw [State.collect_full b h]
  · rw [State.collect_eq b h]

theorem State.bodyByte_last {s : State} {b : Byte} (h : s.bodyCnt + 1 = s.lenR) : s.bodyByte b = (s.collect b).complete :=
  if_pos (by rw [State.collect_bodyCnt, State.collect_lenR, h])

theorem State.bodyByte_goes_on {s : State} {b : Byte} (h : s.bodyCnt + 1 ≠ s.lenR) : s.bodyByte b = s.collect b :=
  if_neg (by rw [State.collect_bodyCnt, State.collect_lenR]; exact h)

end Sys2Proof.Machine
end

