-- ==== Sys2Proof/Tests/Slice0.lean ====
section
/-! SUPPORT. Tests of the model on the spec's own examples (spec/95_test_vectors.md V1 to V54, P1 to P5, and the examples of the operation rules), and for every statement with hypotheses a state and operands that meet them. -/

namespace Sys2Proof.Tests

open Sys2Proof.Machine

/-! ### Helpers -/

/-- The parameters the vectors use: the suggested codes, `SUBST = 0x3F`, and a `MAX_SCAN`. -/
def params (maxScan : Half) : Params := { Config.suggested with maxScan := maxScan }

/-- The reset state of an instance with `MAX_SCAN = 64`. -/
def start : State := { State.reset with params := params 64 }

/-- A state with these payload bytes and their length. -/
def withPayload (bs : List Byte) : State :=
  { start with mem := memWriteBytes [] 0x100 bs, pLen := BitVec.ofNat 8 bs.length }

/-- A state with these received bytes and their length, as the parser vectors start: `CMDR = EE`, `PLEN = 0x11`. -/
def withReceived (bs : List Byte) : State :=
  { start with mem := memWriteBytes [] 0x400 bs, rxLen := BitVec.ofNat 9 bs.length, cmdR := 0xEE, pLen := 0x11, crcOk := true }

/-- What an instruction leaves. -/
def after (i : Instr) (s : State) : State :=
  match exec i s with
  | .next t => t
  | .fault _ => s
  | .refused _ => s

/-- What a step leaves. -/
def afterStep (s : State) : State :=
  match step s with
  | .next t => t
  | .fault _ => s
  | .refused _ => s

/-- The state in HUNT after `SCANCNT` bytes, the last four in the window. -/
def hunting (count : Half) (window : Word) (maxScan : Half) : State :=
  { start with params := params maxScan, rstate := .hunt, scanCnt := count, win := window }

/-- The state in BODY with the magic, the length byte and some body bytes taken. -/
def collecting (length : Byte) (taken : List Byte) : State :=
  { start with
    rstate := .body, win := magicWindow, scanCnt := 4, lenR := length, bodyCnt := BitVec.ofNat 8 taken.length,
    rxLen := BitVec.ofNat 9 (5 + taken.length), mem := memWriteBytes [] 0x400 (magic ++ length :: taken) }

/-! ### Which terms are well formed (R104) -/

theorem test_wellFormed_refuses_legal_words_in_illegal :
    (Instr.illegal 0x0000).wellFormed = false ∧ (Instr.illegal 0x1FFF).wellFormed = false ∧
    (Instr.illegal 0x20FF).wellFormed = false ∧ (Instr.illegal 0xE000).wellFormed = false := by decide

theorem test_wellFormed_takes_illegal_words :
    (Instr.illegal 0xF000).wellFormed = true ∧ (Instr.illegal 0x0001).wellFormed = true ∧
    (Instr.illegal 0x2100).wellFormed = true ∧ (Instr.illegal 0xEFFF).wellFormed = true := by decide

/-! ### Decoding: a word of every row, written out from R82, R89 and the programs P1 to P5 -/

theorem test_decode_host_access :
    decode (.word 0b0000000000000000) = .nop ∧ decode (.word 0b0001000001000010) = .sel 0x042 ∧
    decode (.word 0b0010000010010101) = .wrb 0x95 ∧ decode (.word 0b0011000000000000) = .rdb := by decide

theorem test_decode_crc_and_frame :
    decode (.word 0b0100000000000000) = .crcInit ∧ decode (.word 0b0101000000110001) = .crcUpd 0x31 ∧
    decode (.word 0b0110000001000001) = .frmBuild 0x41 ∧ decode (.word 0b0111000000000000) = .frmParse := by decide

theorem test_decode_records :
    decode (.word 0b1000000000000000) = .chPack ∧ decode (.word 0b1001000000000000) = .chUnpack ∧
    decode (.word 0b1010000000000000) = .dmrPack ∧ decode (.word 0b1011000000000000) = .dmrUnpack := by decide

theorem test_decode_resynchronizer :
    decode (.word 0b1100000000000000) = .rsyStart ∧ decode (.word 0b1101000010100101) = .rsyByte 0xA5 ∧
    decode (.word 0b1110000000000000) = .rsyTmo := by decide

/-- The words of V50. -/
theorem test_decode_illegal :
    decode (.word 0xF000) = .illegal 0xF000 ∧ decode (.word 0x0001) = .illegal 0x0001 ∧
    decode (.word 0x2100) = .illegal 0x2100 ∧ decode (.word 0x3001) = .illegal 0x3001 ∧
    decode (.word 0x5F31) = .illegal 0x5F31 ∧ decode (.word 0xC001) = .illegal 0xC001 := by decide

theorem test_decode_wire_commands :
    [0x07, 0x0A, 0x0B, 0x27, 0x28, 0x29, 0x39, 0x40, 0x41, 0x43, 0x44].map (fun c => decode (.wire c)) =
      [.cmd07, .cmd0A, .cmd0B, .cmd27, .cmd28, .cmd29, .cmd39, .cmd40, .cmd41, .cmd43, .cmd44] := by decide

/-- R231: 0x42 has no name and is built like the named ones. -/
theorem test_decode_unnamed_command : decode (.wire 0x42) = .frmBuild 0x42 := by decide

theorem test_decodeTableWord :
    decodeTableWord 16 0x5031 = some (.crcUpd 0x31) ∧ decodeTableWord 16 0xF000 = some (.illegal 0xF000) ∧
    decodeTableWord 8 0x41 = some .cmd41 := by decide

/-- The first instruction after reset, an operation word and a wire command. -/
theorem test_withFetchWord :
    (afterStep (State.reset.withFetchWord 16 0x5031)).crc = 0xC782 ∧
    (afterStep (State.reset.withFetchWord 8 0x27)).txLen = 8 := by decide

/-! ### The written form (R107) -/

theorem test_assembler_writes :
    asmLine (.crcUpd 0x31) = "CRC.UPD 0x31".toList ∧ asmWord (.crcUpd 0x31) = "5031".toList ∧
    asmLine (.sel 0x100) = "SEL 0x100".toList := by decide

theorem test_assembler_reads :
    readLine "SEL PBUF ; the payload".toList = some (.sel 0x100) ∧ readLine "CRC.UPD 0x31".toList = some (.crcUpd 0x31) ∧
    readLine "SEL NAMECH31".toList = some (.sel 0x03F) ∧ readLine "NOP 0x00".toList = none := by decide

/-! ### Host access (R110 to R113, V51 to V54) -/

theorem test_nop : after .nop start = start := by decide

theorem test_sel_unmapped : (after (.sel 0xFFF) start).ptr = 0xFFF := by decide

/-- R112's example, its second byte, and V51. -/
theorem test_wrb_frequency_and_wrap :
    after (.wrb 0x95) { start with ptr := 0x005, rxFreq := 0x1A000000 } =
      { start with ptr := 0x006, rxFreq := 0x1A950000 } ∧
    after (.wrb 0xAA) { start with ptr := 0xFFF } = { start with ptr := 0x000 } := by decide

/-- V52 and V53. -/
theorem test_wrb_read_only_and_rxlenh :
    after (.wrb 0x55) { start with ptr := 0x200 } = { start with ptr := 0x201 } ∧
    after (.wrb 0x00) { start with ptr := 0x042 } = { start with ptr := 0x043 } ∧
    (after (.wrb 0xFF) { start with ptr := 0x048 }).rxLen = 0x100 ∧
    (after (.wrb 0xFF) { start with ptr := 0x049, rxLen := 0x100 }).rxLen = 0x1FF := by decide

/-- V54, and R113's wrap. -/
theorem test_rdb_status_and_wrap :
    (after .rdb { start with ptr := 0x040 }).dout = 0x08 ∧ (after .rdb { start with ptr := 0x055, dout := 0x08 }).resp = 0x08 ∧
    (after .rdb { start with ptr := 0xFFF }).ptr = 0x000 := by decide

/-- V50: `STAT` reads 28 with `MODE_DMR ≠ 0`. -/
theorem test_illegal :
    after (.illegal 0x5F31) start = { start with ill := true } ∧ (after (.illegal 0xF000) start).stat = 0x28 := by decide

/-- R49: `STAT` after reset. -/
theorem test_status_after_reset :
    start.stat = 0x08 ∧ ({ start with params := { params 64 with modes := { Config.suggested.modes with dmr := 0, usb := 9 } } } : State).stat = 0x18 := by
  decide

/-! ### The CRC generator (V2, V4, V5, V7) -/

theorem test_crcInit : (after .crcInit { start with crc := 0x29B1 }).crc = 0xFFFF := by decide

theorem test_crcUpd :
    (after (.crcUpd 0x31) start).crc = 0xC782 ∧ (after (.crcUpd 0x39) { start with crc := 0xA12B }).crc = 0x29B1 := by decide

theorem test_crc16_vectors :
    crc16 [] = 0xFFFF ∧ crc16 [0x00] = 0xE1F0 ∧ crc16 [0xA5] = 0x04BF ∧ crc16 [0xFF, 0xFF] = 0x0000 ∧
    crc16 [0xA5, 0xA5, 0xA5, 0xA5] = 0x835B ∧ crc16 [0x05, 0x41, 0x00, 0x05] = 0x42BD := by decide +kernel

/-- V1, the check value of R127. -/
theorem test_crc16_check_value : crc16 [0x31, 0x32, 0x33, 0x34, 0x35, 0x36, 0x37, 0x38, 0x39] = 0x29B1 := by decide +kernel

/-- V5. -/
theorem test_crc16_residue : crc16 [0x03, 0x27, 0x1C, 0xD9] = 0 ∧ crc16 [0x05, 0x41, 0x00, 0x05, 0x42, 0xBD] = 0 := by decide +kernel

/-! ### Building frames (V10 to V18) -/

theorem test_frmBuild :
    (after (.frmBuild 0x41) (withPayload [0x00, 0x05])).txbufBytes 10 =
      [0xA5, 0xA5, 0xA5, 0xA5, 0x05, 0x41, 0x00, 0x05, 0x42, 0xBD] ∧
    (after (.frmBuild 0x41) (withPayload [0x00, 0x05])).txLen = 10 := by decide +kernel

theorem test_frmBuild_too_long :
    after (.frmBuild 0x41) { start with pLen := 253 } = { start with pLen := 253, err := .tooLong } := by decide

theorem test_build_vectors :
    build 0x41 [0x00, 0x00] = [0xA5, 0xA5, 0xA5, 0xA5, 0x05, 0x41, 0x00, 0x00, 0x12, 0x18] ∧
    build 0x27 [] = [0xA5, 0xA5, 0xA5, 0xA5, 0x03, 0x27, 0x1C, 0xD9] ∧
    build 0x07 [0x01] = [0xA5, 0xA5, 0xA5, 0xA5, 0x04, 0x07, 0x01, 0x99, 0xEA] := by decide +kernel

/-- The CRCs of V15 and V16. -/
theorem test_build_records :
    (build 0x40 [0x00, 0x05, 0x06, 0x06, 0x1A, 0x95, 0x6B, 0x80, 0x1A, 0x95, 0x6B, 0x80, 0x0D, 0x0D, 0x54, 0x45, 0x53, 0x54,
      0x5F, 0x30, 0x35, 0x00, 0x00, 0x00, 0x00, 0x00]).drop 32 = [0x1C, 0xA1] ∧
    (build 0x43 [0x00, 0x05, 0x00, 0x01, 0x01, 0x02, 0x00, 0x00, 0x27, 0x06, 0x00, 0x2F, 0xEF, 0xD8, 0x00, 0x00, 0x00, 0x00,
      0x00, 0x01, 0x00, 0x00, 0x00, 0x00, 0x00, 0x01]).drop 32 = [0x04, 0x31] := by decide +kernel

theorem test_cmd41 : after .cmd41 (withPayload [0x00, 0x05]) = after (.frmBuild 0x41) (withPayload [0x00, 0x05]) := by decide +kernel

theorem test_cmd44 :
    (after .cmd44 (withPayload [0x00, 0x05])).txbufBytes 10 =
      [0xA5, 0xA5, 0xA5, 0xA5, 0x05, 0x44, 0x00, 0x05, 0xA9, 0x4D] := by decide +kernel

/-- The command byte of the frame each wire command builds. -/
theorem test_wire_command_bytes :
    [Instr.cmd07, .cmd0A, .cmd0B, .cmd27, .cmd28, .cmd29, .cmd39, .cmd40, .cmd41, .cmd43, .cmd44].map
        (fun i => (after i start).txbuf 5) =
      [0x07, 0x0A, 0x0B, 0x27, 0x28, 0x29, 0x39, 0x40, 0x41, 0x43, 0x44] := by decide +kernel

/-! ### Parsing frames (V20 to V29) -/

theorem test_frmParse :
    (after .frmParse (withReceived [0xA5, 0xA5, 0xA5, 0xA5, 0x05, 0x41, 0x00, 0x05, 0x42, 0xBD])).pbufBytes 2 = [0x00, 0x05] ∧
    (after .frmParse (withReceived [0xA5, 0xA5, 0xA5, 0xA5, 0x05, 0x41, 0x00, 0x05, 0x42, 0xBD])).cmdR = 0x41 := by decide

theorem test_frmParse_malformed :
    after .frmParse (withReceived []) = { withReceived [] with crcOk := false, err := .malformedFrame } := by decide

theorem test_parse_malformed :
    parse [0xA5, 0xA5, 0xA5, 0xA5, 0x05, 0x41, 0x00] = .malformed ∧
    parse [0xA5, 0xA5, 0xA5, 0xA4, 0x05, 0x41, 0x00, 0x05, 0x42, 0xBD] = .malformed ∧
    parse [0x00, 0xA5, 0xA5, 0xA5, 0xA5, 0x05, 0x41, 0x00, 0x05, 0x42, 0xBD] = .malformed ∧
    parse [0xA5, 0xA5, 0xA5, 0xA5, 0x02, 0x41, 0x00, 0x00, 0x00, 0x00] = .malformed ∧
    parse [0xA5, 0xA5, 0xA5, 0xA5, 0x06, 0x41, 0x00, 0x05, 0x42, 0xBD] = .malformed := by decide

/-- V27, V28, V29. -/
theorem test_parse_frames :
    parse [0xA5, 0xA5, 0xA5, 0xA5, 0x05, 0x41, 0x00, 0x05, 0xC2, 0xBD] = .frame 0x41 [0x00, 0x05] false ∧
    parse [0xA5, 0xA5, 0xA5, 0xA5, 0x05, 0x41, 0x00, 0x05, 0x42, 0xBD, 0xDE, 0xAD] = .frame 0x41 [0x00, 0x05] true ∧
    parse [0xA5, 0xA5, 0xA5, 0xA5, 0x03, 0x27, 0x1C, 0xD9] = .frame 0x27 [] true := by decide +kernel

/-! ### Records (V40 to V47) -/

/-- The registers of V40. -/
def channel : State :=
  { start with
    idx := 5, rxMode := 6, txMode := 6, rxFreq := 0x1A956B80, txFreq := 0x1A956B80, rxTone := 0x0D, txTone := 0x0D,
    nameLen := 7, mem := memWriteBytes [] 0x020 [0x54, 0x45, 0x53, 0x54, 0x5F, 0x30, 0x35] }

/-- The bytes of V40. -/
def channelRecord : List Byte :=
  [0x00, 0x05, 0x06, 0x06, 0x1A, 0x95, 0x6B, 0x80, 0x1A, 0x95, 0x6B, 0x80, 0x0D, 0x0D, 0x54, 0x45, 0x53, 0x54, 0x5F, 0x30,
    0x35, 0x00, 0x00, 0x00, 0x00, 0x00]

theorem test_chPack :
    (after .chPack channel).pbufBytes 26 = channelRecord ∧ (after .chPack channel).pLen = 26 := by decide

/-- V41: a name of twenty characters, and one with a character that is not ASCII. -/
theorem test_chPack_names :
    ({ start with nameLen := 20, mem := memWriteBytes [] 0x020 ((List.range 20).map fun i => BitVec.ofNat 8 (0x41 + i)) } : State).nameBytes =
      [0x41, 0x42, 0x43, 0x44, 0x45, 0x46, 0x47, 0x48, 0x49, 0x4A, 0x4B, 0x00] ∧
    ({ start with nameLen := 5, mem := memWriteBytes [] 0x020 [0x43, 0x61, 0x66, 0xE9, 0x31] } : State).nameBytes =
      [0x43, 0x61, 0x66, 0x3F, 0x31, 0x00, 0x00, 0x00, 0x00, 0x00, 0x00, 0x00] := by decide

theorem test_chUnpack :
    (after .chUnpack (withPayload channelRecord)).rxFreq = 0x1A956B80 ∧
    (after .chUnpack (withPayload channelRecord)).nameLen = 7 ∧
    flatName (after .chUnpack (withPayload channelRecord)) = [0x54, 0x45, 0x53, 0x54, 0x5F, 0x30, 0x35] := by decide

/-- V42 and V44. -/
theorem test_chUnpack_unterminated_and_short :
    (after .chUnpack (withPayload (List.replicate 14 0 ++ List.replicate 12 0x41))).stat = 0x48 ∧
    (after .chUnpack (withPayload (List.replicate 14 0 ++ List.replicate 12 0x41))).nameLen = 12 ∧
    after .chUnpack { channel with pLen := 25 } = { channel with pLen := 25, err := .recLen } := by decide

/-- V45. -/
theorem test_dmrPack :
    (after .dmrPack { start with
      idx := 5, rxCc := 1, txCc := 1, slot := 2, callId := 0x00002706, ownId := 0x002FEFD8, callFmt := 1 }).pbufBytes 26 =
    [0x00, 0x05, 0x00, 0x01, 0x01, 0x02, 0x00, 0x00, 0x27, 0x06, 0x00, 0x2F, 0xEF, 0xD8, 0x00, 0x00, 0x00, 0x00, 0x00, 0x01,
      0x00, 0x00, 0x00, 0x00, 0x00, 0x01] := by decide

/-- V46. -/
theorem test_dmrPack_masks_colour_codes :
    (after .dmrPack { start with rxCc := 0x1F, txCc := 0xF3 }).pbufBytes 5 = [0x00, 0x00, 0x00, 0x0F, 0x03] ∧
    (after .dmrPack { start with rxCc := 0x1F, txCc := 0xF3 }).rxCc = 0x1F := by decide

/-- V47. -/
theorem test_dmrUnpack :
    let s := withPayload [0x03, 0xE7, 0xFF, 0xF1, 0x2F, 0x09, 0x01, 0x02, 0x03, 0x04, 0x05, 0x06, 0x07, 0x08, 0x09, 0x09, 0x09,
      0x09, 0x09, 0x80, 0x09, 0x09, 0x09, 0x09, 0x09, 0x09]
    after .dmrUnpack s = { s with
      idx := 0x03E7, rxCc := 0xF1, txCc := 0x2F, slot := 0x09, callId := 0x01020304, ownId := 0x05060708, callFmt := 0x80 } := by
  decide

/-- V44. -/
theorem test_dmrUnpack_wrong_length :
    after .dmrUnpack { start with pLen := 27 } = { start with pLen := 27, err := .recLen } := by decide

/-! ### The resynchronizer (V30 to V39) -/

/-- V39, the second `RSY.START`. -/
theorem test_rsyStart :
    after .rsyStart (hunting 3 0x00A5A5A5 64) = { start with rstate := .hunt } ∧
    (after .rsyStart start).stat = 0x0A := by decide

/-- V38, V39, V36 (a): a byte not accepted, one that goes on, and the match on the byte that reaches the bound. -/
theorem test_rsyByte_hunt :
    after (.rsyByte 0xA5) start = start ∧
    (after (.rsyByte 0xA5) (hunting 0 0 64)).win = 0x000000A5 ∧
    (after (.rsyByte 0xA5) (hunting 7 0x04A5A5A5 8)).skip = 4 ∧
    (after (.rsyByte 0xA5) (hunting 7 0x04A5A5A5 8)).rstate = .len ∧
    (after (.rsyByte 0xA5) (hunting 7 0x04A5A5A5 8)).rxbufBytes 4 = [0xA5, 0xA5, 0xA5, 0xA5] := by decide

/-- V36 (b), V34, V35 and V33 (length bytes 0 and 2): the last step of each receive. -/
theorem test_rsyByte_ends :
    (after (.rsyByte 0xA5) (hunting 7 0x0405A5A5 8)).err = .timeout ∧
    (after (.rsyByte 0xD9) (collecting 3 [0x27, 0x1C])).err = .ok ∧
    (after (.rsyByte 0xBC) (collecting 5 [0x41, 0x00, 0x05, 0x42])).err = .crcMismatch ∧
    (after (.rsyByte 0xBC) (collecting 5 [0x41, 0x00, 0x05, 0x42])).pbufBytes 2 = [0x00, 0x05] ∧
    (after (.rsyByte 0x00) { start with rstate := .len }).err = .malformedFrame ∧
    (after (.rsyByte 0x00) { start with rstate := .len }).rxLen = 5 ∧
    (after (.rsyByte 0x77) (collecting 2 [0x77])).err = .malformedFrame ∧
    (after (.rsyByte 0x77) (collecting 2 [0x77])).cmdR = 0 := by decide +kernel

/-- V37, the last row, and V38. -/
theorem test_rsyTmo :
    after .rsyTmo start = start ∧
    after .rsyTmo (collecting 5 [0x41]) = { collecting 5 [0x41] with rstate := .done, err := .timeout, resp := 1 } := by decide

/-! ### Hypotheses met: encodings, the step, lanes -/

theorem test_met_wellFormed : (Instr.illegal 0xF000).wellFormed = true ∧ (Instr.sel 0xFFF).wellFormed = true := by decide

theorem test_met_named_and_unnamed_commands :
    (0x44 : Byte) ∈ ([0x07, 0x0A, 0x0B, 0x27, 0x28, 0x29, 0x39, 0x40, 0x41, 0x43, 0x44] : List Byte) ∧
    (0x42 : Byte) ∉ ([0x07, 0x0A, 0x0B, 0x27, 0x28, 0x29, 0x39, 0x40, 0x41, 0x43, 0x44] : List Byte) := by decide

theorem test_met_reserved_word : (0xF123 : Half) &&& 0xF000 = 0xF000 := by decide

/-- A state to which one item is presented. -/
def presented (p : PortItem) : State := { start with inputs := [.present p] }

theorem test_met_step :
    (presented (.word 0x5031)).inputs = .present (.word 0x5031) :: [] ∧ decode (.word 0x5031) = .crcUpd 0x31 ∧
    (Instr.crcUpd 0x31).wellFormed = true := by decide

theorem test_met_nothing_presented : start.inputs = [] := by decide

theorem test_met_reset_event : ({ channel with inputs := [.resetEvent] } : State).inputs = .resetEvent :: [] := by decide

theorem test_met_reset_state : ∃ (p : Params) (r : List Input) (n : Nat),
    start = { State.reset with params := p, inputs := r, freeCtr := n } := ⟨params 64, [], 0, rfl⟩

/-- The parameters may give `MODE_DMR` the code 0 or another. -/
theorem test_met_mode_dmr :
    ({ params 64 with modes := { Config.suggested.modes with dmr := 0, usb := 9 } } : Params).modeDmr = 0 ∧
    (params 64).modeDmr ≠ 0 := by decide

/-- Both ends of the five unmapped ranges read 0x00. -/
theorem test_met_unmapped_lanes :
    [0x01B, 0x01F, 0x056, 0x0FF, 0x1FC, 0x1FF, 0x304, 0x3FF, 0x600, 0xFFF].map (laneRead channel) = List.replicate 10 0 := by
  decide

/-- Both ends of the mapped arrays. -/
theorem test_met_array_ends :
    [0x020, 0x03F, 0x100, 0x1FB, 0x200, 0x303, 0x400, 0x5FF].map laneAt =
      [.namech 0, .namech 31, .pbuf 0, .pbuf 251, .txbuf 0, .txbuf 259, .rxbuf 0, .rxbuf 511] := by decide

/-- A host write: the writable lanes at both ends of their ranges, `RXLENH`, and the others at both ends of theirs. -/
theorem test_met_writable_lanes :
    [0x000, 0x01A, 0x020, 0x03F, 0x044, 0x045, 0x049, 0x100, 0x1FB, 0x400, 0x5FF].map (fun a => (laneAt a).writable) =
      List.replicate 11 true ∧
    (laneAt 0x048).writable = true ∧
    [0x01B, 0x01F, 0x040, 0x043, 0x046, 0x047, 0x04A, 0x0FF, 0x1FC, 0x3FF, 0x600, 0xFFF].map (fun a => (laneAt a).writable) =
      List.replicate 12 false := by decide

theorem test_met_other_lane : (0x041 : LaneAddr) ≠ ({ start with ptr := 0x044 } : State).ptr ∧ (0x041 : LaneAddr) ≠ 0x040 := by
  decide

theorem test_met_rdb_wrap :
    ({ start with ptr := 0xFFF } : State).ptr = 0xFFF ∧
    exec .rdb { start with ptr := 0xFFF } = .next (after .rdb { start with ptr := 0xFFF }) := ⟨by decide, rfl⟩

theorem test_met_loadp : ([] : List Byte).length ≤ 252 ∧ (List.replicate 252 (0xFF : Byte)).length ≤ 252 := by decide +kernel

theorem test_met_crc_block : Instr.crcInit ∉ [.crcUpd 0x31, .nop, .crcUpd 0x32] := by decide

/-! ### Hypotheses met: frames -/

/-- The two sides of the payload bound. -/
theorem test_met_payload_bound :
    ({ start with pLen := 252 } : State).pLen.toNat ≤ 252 ∧ 252 < ({ start with pLen := 253 } : State).pLen.toNat ∧
    (List.replicate 252 (0 : Byte)).length ≤ 252 := by decide +kernel

/-- The three outcomes of a parse. -/
theorem test_met_parses :
    parse ((withReceived []).rxbufBytes (withReceived []).rxLen.toNat) = .malformed ∧
    parse ((withReceived (build 0x27 [])).rxbufBytes (withReceived (build 0x27 [])).rxLen.toNat) = .frame 0x27 [] true ∧
    parse ((withReceived [0xA5, 0xA5, 0xA5, 0xA5, 0x03, 0x27, 0x1C, 0xD8]).rxbufBytes 8) = .frame 0x27 [] false := by decide +kernel

/-! ### Hypotheses met: records -/

theorem test_met_valid_params : channel.params.Valid := by decide

theorem test_met_record_length :
    (withPayload channelRecord).pLen = 26 ∧ (withPayload channelRecord).params.Valid ∧
    ({ channel with pLen := 25 } : State).pLen ≠ 26 := by decide

/-- Names at both sides of what comes back: eleven ASCII characters, and twelve. -/
theorem test_met_names :
    (({ channel with nameLen := 11, mem := memWriteBytes [] 0x020 (List.replicate 11 0x41) } : State).nameLen.toNat ≤ 11 ∧
      ∀ i < 11, (memReadBytes (memWriteBytes [] 0x020 (List.replicate 11 0x41)) 0x020 11).getD i 0 = 0x41) ∧
    ¬ ({ channel with nameLen := 12 } : State).nameLen.toNat ≤ 11 := by decide

/-! ### Hypotheses met: the resynchronizer -/

theorem test_met_unarmed : start.rstate = .idle ∧ ({ start with rstate := .done } : State).rstate = .done := by decide

/-- The three outcomes of a byte in HUNT, the match on the very byte that reaches the bound. -/
theorem test_met_hunt :
    ((hunting 7 0x04A5A5A5 8).rstate = .hunt ∧ (hunting 7 0x04A5A5A5 8).win.extractLsb' 0 24 ++ (0xA5 : Byte) = 0xA5A5A5A5) ∧
    ((hunting 7 0x05A5A5A5 8).win.extractLsb' 0 24 ++ (0xA4 : Byte) ≠ 0xA5A5A5A5 ∧
      (hunting 7 0x05A5A5A5 8).scanCnt + 1 = (hunting 7 0x05A5A5A5 8).params.maxScan) ∧
    ((hunting 6 0x05A5A5A5 8).win.extractLsb' 0 24 ++ (0xA4 : Byte) ≠ 0xA5A5A5A5 ∧
      (hunting 6 0x05A5A5A5 8).scanCnt + 1 ≠ (hunting 6 0x05A5A5A5 8).params.maxScan) := by decide

theorem test_met_len : ({ start with rstate := .len, win := magicWindow } : State).rstate = .len := by decide

/-- A byte in BODY that is not the last, with `RXLEN` at 510 and at 511. -/
theorem test_met_body :
    (collecting 5 [0x41]).rstate = .body ∧ (collecting 5 [0x41]).bodyCnt + 1 ≠ (collecting 5 [0x41]).lenR ∧
    ({ collecting 5 [0x41] with rxLen := 510 } : State).rxLen.toNat < 511 ∧
    ¬ ({ collecting 5 [0x41] with rxLen := 511 } : State).rxLen.toNat < 511 := by decide

/-- The last byte of a body, with the two kinds of outcome of the parse that follows. -/
theorem test_met_last_byte :
    (collecting 3 [0x27, 0x1C]).rstate = .body ∧ (collecting 3 [0x27, 0x1C]).bodyCnt + 1 = (collecting 3 [0x27, 0x1C]).lenR ∧
    parse ((after (.rsyByte 0xD9) (collecting 3 [0x27, 0x1C])).rxbufBytes 8) = .frame 0x27 [] true ∧
    (collecting 2 [0x77]).bodyCnt + 1 = (collecting 2 [0x77]).lenR ∧
    parse ((after (.rsyByte 0x77) (collecting 2 [0x77])).rxbufBytes 7) = .malformed := by decide +kernel

theorem test_met_armed :
    (hunting 2 0x0102 64).rstate = .hunt ∧ ({ start with rstate := .len } : State).rstate = .len ∧
    (collecting 5 [0x41]).rstate = .body := by decide

/-- A whole receive of a frame that parses, and of one that is too short. -/
theorem test_met_receive :
    4 ≤ start.params.maxScan.toNat ∧ [(0x27 : Byte), 0x1C, 0xD9].length = (3 : Byte).toNat ∧
    parse ([0xA5, 0xA5, 0xA5, 0xA5] ++ (3 : Byte) :: [0x27, 0x1C, 0xD9]) = .frame 0x27 [] true ∧
    [(0x77 : Byte), 0x77].length = (2 : Byte).toNat ∧ ([] : List Byte).length = (0 : Byte).toNat := by decide +kernel

/-- The noise of V31 and its frame. -/
def noise : List Byte := (List.range 37).map fun i => BitVec.ofNat 8 (7 * i + 1)

theorem test_met_noise :
    [(0x01 : Byte)].length ≤ 252 ∧ noise.length + 4 ≤ start.params.maxScan.toNat ∧ noise.getLast? ≠ some 0xA5 ∧
    ¬ [0xA5, 0xA5, 0xA5, 0xA5] <:+: noise := by decide

/-! ### Hypotheses met: rules over all instructions -/

theorem test_met_not_start :
    Instr.rsyTmo ≠ .rsyStart ∧ (collecting 5 [0x41]).rstate = .body ∧
    exec .rsyTmo (collecting 5 [0x41]) = .next (after .rsyTmo (collecting 5 [0x41])) := ⟨by decide, by decide, rfl⟩

/-- A byte that enters DONE and one that does not, and a deadline accepted and one not. -/
theorem test_met_reporting_steps :
    ((collecting 3 [0x27, 0x1C]).rstate ≠ .done ∧ (after (.rsyByte 0xD9) (collecting 3 [0x27, 0x1C])).rstate = .done) ∧
    ¬ ((collecting 5 [0x41]).rstate ≠ .done ∧ (after (.rsyByte 0x00) (collecting 5 [0x41])).rstate = .done) ∧
    (after .rsyTmo start).resp = 0 ∧ (after .rsyTmo (collecting 5 [0x41])).resp = 1 := by decide

/-- `CH.UNPACK` presented with a record in `PBUF`. -/
theorem test_met_unpack_presented :
    ({ withPayload channelRecord with inputs := [.present (.word 0x9000)] } : State).inputs =
      .present (.word 0x9000) :: [] ∧
    ({ withPayload channelRecord with inputs := [.present (.word 0x9000)] } : State).pLen = 26 ∧
    ∀ rest, ({ withPayload channelRecord with inputs := [.present (.word 0x9000)] } : State).inputs ≠ .resetEvent :: rest := by
  refine ⟨by decide, by decide, ?_⟩
  intro rest h
  cases h

theorem test_met_not_a_write : (∀ b, Instr.chPack ≠ .wrb b) ∧ Instr.chPack ≠ .chUnpack ∧ Instr.chPack ≠ .dmrUnpack := by
  refine ⟨fun b h => ?_, by decide, by decide⟩
  cases h

/-! ### Hypotheses met: invariants -/

/-- A state in BODY that meets the invariant, and the step from it. -/
theorem test_met_invariant : (collecting 5 [0x41]).Inv ∧ step (collecting 5 [0x41]) = .next (afterStep (collecting 5 [0x41])) where
  left :=
    { paramsValid := by decide
      memCanonical := by decide
      memInBuffers := by decide
      errRaised := by decide
      resyncOk := by
        show _ ∧ _ ∧ _ ∧ _
        decide }
  right := rfl

theorem test_met_valid_for_reset : (params 4).Valid ∧ (params 65535).Valid := by decide

/-- A state whose `TXBUF` holds a frame. -/
theorem test_met_transmit_frame :
    ({ start with txLen := 8, mem := memWriteBytes [] 0x200 (build 0x27 []) } : State).TxHoldsFrame ∧
    ({ start with txLen := 8, mem := memWriteBytes [] 0x200 (build 0x27 []) } : State).txLen ≠ 0 :=
  ⟨.inr ⟨0x27, [], by decide, by decide, by decide +kernel⟩, by decide⟩

theorem test_met_canonical :
    Memory.wf channel.mem = true ∧ Memory.wf (memWriteBytes [] 0x020 [0x54, 0x45, 0x53, 0x54, 0x5F, 0x30, 0x35]) = true ∧
    channel.mem = memWriteBytes [] 0x020 [0x54, 0x45, 0x53, 0x54, 0x5F, 0x30, 0x35] := by decide

/-- The canonical form refuses a listed zero and a wrong order. -/
theorem test_canonical_refuses : Memory.wf [(0x100, 0)] = false ∧ Memory.wf [(0x101, 1), (0x100, 1)] = false := by decide

end Sys2Proof.Tests
end

section
/-! The block is a total machine: what an instruction and a step leave of the environment's part of the state, the
inputs still to come (R20) and the instance's parameters (R21, R43). -/

namespace Sys2Proof.Machine

/-! ### The environment's part of the state -/

/-- An operation with several outcomes has its own frame lemmas; every other instruction is a plain update of fields
that are the block's own. -/
theorem effect_keeps_environment (i : Instr) (s : State) :
    (effect i s).inputs = s.inputs ∧ (effect i s).params = s.params :=
  match i with
  | .wrb b => ⟨laneWrite_inputs s.ptr b s, laneWrite_params s.ptr b s⟩
  | .frmParse => ⟨s.parseFrame_inputs, s.parseFrame_params⟩
  | .chUnpack => ⟨s.unpackBasic_inputs, s.unpackBasic_params⟩
  | .dmrUnpack => ⟨s.unpackDmr_inputs, s.unpackDmr_params⟩
  | .rsyByte b => ⟨s.takeByte_inputs b, s.takeByte_params b⟩
  | .rsyTmo => ⟨s.deadline_inputs, s.deadline_params⟩
  | .frmBuild _ | .cmd07 | .cmd0A | .cmd0B | .cmd27 | .cmd28 | .cmd29 | .cmd39 | .cmd40 | .cmd41 | .cmd43 | .cmd44 =>
    ⟨s.buildFrame_inputs _, s.buildFrame_params _⟩
  | .nop | .sel _ | .rdb | .crcInit | .crcUpd _ | .chPack | .dmrPack | .rsyStart | .illegal _ => ⟨rfl, rfl⟩

@[simp] theorem effect_inputs (i : Instr) (s : State) : (effect i s).inputs = s.inputs :=
  (effect_keeps_environment i s).1

@[simp] theorem effect_params (i : Instr) (s : State) : (effect i s).params = s.params :=
  (effect_keeps_environment i s).2

@[simp] theorem State.applyReset_inputs (s : State) : s.applyReset.inputs = s.inputs := rfl

@[simp] theorem State.applyReset_params (s : State) : s.applyReset.params = s.params := rfl

/-! ### Steps -/

theorem step_of_present {s : State} {p : PortItem} {rest : List Input} (h : s.inputs = .present p :: rest) :
    step s = exec (decode p) { s with inputs := rest } := by
  simp only [step, h]

/-- Settles O54, by the three things a step can do: hold, perform the presented item, reset. -/
theorem everyStepGoesOn : Obligations.EveryStepGoesOn := by
  intro s
  obtain ⟨hin, hstep⟩ | ⟨p, rest, hin, hstep⟩ | ⟨rest, hin, hstep⟩ := step_cases s
  · exact ⟨_, hstep, by simp [hin], rfl⟩
  · exact ⟨_, hstep, by simp [hin], by simp⟩
  · exact ⟨_, hstep, by simp [hin], by simp⟩

/-- Settles O6: a presented item is decoded and performed; that the instruction is well-formed is not needed. -/
theorem stepPerformsThePresentedItem : Obligations.StepPerformsThePresentedItem := by
  rintro s p i rest hin rfl -
  exact step_of_present hin

end Sys2Proof.Machine
end

section
/-! What each operation stores where: beside the host write, `CH.UNPACK` and the operations that build a frame, no
instruction changes a byte outside `PBUF` and `RXBUF`. Hence the transmit buffer has the frame builders as its only
writers (R45), and it always holds a whole frame (D35). -/

namespace Sys2Proof.Machine

/-! ### The bytes a shared operation leaves alone -/

/-- A host write reaches no byte of `TXBUF`, whose lanes are read-only (R61). -/
theorem laneWrite_txbuf (a : LaneAddr) (v : Byte) (s : State) {k : Nat} (hk : k < txbufSize) :
    (laneWrite a v s).txbuf k = s.txbuf k := by
  by_cases h : Lane.txbuf k = laneAt a
  · rw [laneWrite, Lane.put_readOnly _ _ _ (by rw [← h]; rfl)]
  · exact Lane.get_put_other (laneAt a) (.txbuf k) v s h Lane.noConfusion (laneAt_inRange a) hk

theorem State.deliver_mem_out {s : State} {buf : List Byte} {c : Byte} {p : List Byte} {v : Bool}
    (hp : parse buf = .frame c p v) {a : Nat} (ha : a < 0x100 ∨ 0x1FC ≤ a) :
    memRead (s.deliver c p v).mem a = memRead s.mem a := by
  obtain ⟨-, -, -, hlen⟩ := parse_frame hp
  exact memRead_writeBytes_out _ _ _ _ (by simp only [pbufBase]; omega)

theorem State.parseFrame_mem_out (s : State) {a : Nat} (ha : a < 0x100 ∨ 0x1FC ≤ a) :
    memRead s.parseFrame.mem a = memRead s.mem a := by
  unfold State.parseFrame
  split
  · rfl
  · next hp => exact State.deliver_mem_out hp ha

theorem State.complete_mem_out (s : State) {a : Nat} (ha : a < 0x100 ∨ 0x1FC ≤ a) :
    memRead s.complete.mem a = memRead s.mem a := by
  unfold State.complete
  split
  · rfl
  · next hp => exact State.deliver_mem_out hp ha

theorem State.packRecord_mem_out (s : State) {r : List Byte} (hr : r.length = recLen) {a : Nat}
    (ha : a < 0x100 ∨ 0x1FC ≤ a) : memRead (s.packRecord r).mem a = memRead s.mem a :=
  memRead_writeBytes_out _ _ _ _ (by rw [hr]; simp only [pbufBase, recLen]; omega)

theorem State.huntByte_mem_out (s : State) (b : Byte) {a : Nat} (ha : a < 0x400) :
    memRead (s.huntByte b).mem a = memRead s.mem a := by
  unfold State.huntByte State.scanned
  split
  · exact memRead_writeBytes_out _ _ _ _ (.inl ha)
  · split <;> rfl

theorem State.takeLen_mem_out (s : State) (b : Byte) {a : Nat} (ha : a < 0x400) :
    memRead (s.takeLen b).mem a = memRead s.mem a :=
  memRead_writeBytes_out _ _ _ _ (by simp only [rxbufBase]; omega)

theorem State.collect_mem_out (s : State) (b : Byte) {a : Nat} (ha : a < 0x400) :
    memRead (s.collect b).mem a = memRead s.mem a := by
  rw [State.collect, State.growRxLen_mem]
  exact memRead_writeBytes_out _ _ _ _ (by simp only [rxbufBase]; omega)

/-- An offered byte is stored in `RXBUF`, and a completed receive is delivered into `PBUF`. -/
theorem State.takeByte_mem_out (s : State) (b : Byte) {a : Nat} (ha : a < 0x100 ∨ (0x1FC ≤ a ∧ a < 0x400)) :
    memRead (s.takeByte b).mem a = memRead s.mem a := by
  have hrx : a < 0x400 := by omega
  have hp : a < 0x100 ∨ 0x1FC ≤ a := by omega
  unfold State.takeByte
  split
  · rfl
  · rfl
  · exact s.huntByte_mem_out b hrx
  · unfold State.lenByte
    split
    · exact (State.complete_mem_out _ hp).trans (s.takeLen_mem_out b hrx)
    · exact s.takeLen_mem_out b hrx
  · unfold State.bodyByte
    split
    · exact (State.complete_mem_out _ hp).trans (s.collect_mem_out b hrx)
    · exact s.collect_mem_out b hrx

/-- The name is unpacked into `NAMECH`. -/
theorem State.unpackBasic_mem_out (s : State) {a : Nat} (ha : a < 0x020 ∨ 0x040 ≤ a) :
    memRead s.unpackBasic.mem a = memRead s.mem a := by
  have hlen := s.loadBasic.fieldName_length_le
  simp only [nameFieldLen] at hlen
  unfold State.unpackBasic
  split
  · rfl
  · refine memRead_writeBytes_out _ _ _ _ ?_
    simp only [namechBase, namechSize, List.length_append, List.length_replicate]
    omega

/-- A frame is built into `TXBUF`. -/
theorem State.buildFrame_mem_out (s : State) (c : Byte) {a : Nat} (ha : a < 0x200 ∨ 0x304 ≤ a) :
    memRead (s.buildFrame c).mem a = memRead s.mem a := by
  by_cases hp : s.pLen.toNat ≤ 252
  · rw [State.buildFrame_short c s hp]
    refine memRead_writeBytes_out _ _ _ _ ?_
    simp only [txbufBase, build_length, pbufBytes_length]
    omega
  · rw [State.buildFrame_long c s (by omega)]
    rfl

/-! ### The instructions that build a frame -/

/-- The command byte of the frame that an instruction builds: the operand of `FRM.BUILD`, or the code of a wire
command. -/
def builtCommand : Instr → Option Byte
  | .frmBuild c => some c
  | .cmd07 => some 0x07
  | .cmd0A => some 0x0A
  | .cmd0B => some 0x0B
  | .cmd27 => some 0x27
  | .cmd28 => some 0x28
  | .cmd29 => some 0x29
  | .cmd39 => some 0x39
  | .cmd40 => some 0x40
  | .cmd41 => some 0x41
  | .cmd43 => some 0x43
  | .cmd44 => some 0x44
  | .nop | .sel _ | .wrb _ | .rdb | .crcInit | .crcUpd _ | .frmParse | .chPack | .chUnpack | .dmrPack | .dmrUnpack
  | .rsyStart | .rsyByte _ | .rsyTmo | .illegal _ => none

theorem effect_of_builtCommand {i : Instr} {c : Byte} (h : builtCommand i = some c) (s : State) :
    effect i s = (s.buildFrame c).respond 0 := by
  cases i <;> cases h <;> rfl

theorem builtCommand_eq_some {i : Instr} {c : Byte} (h : builtCommand i = some c) :
    i = .frmBuild c ∨ i ∈ [.cmd07, .cmd0A, .cmd0B, .cmd27, .cmd28, .cmd29, .cmd39, .cmd40, .cmd41, .cmd43, .cmd44] := by
  cases i <;> cases h <;> simp

/-! ### The bytes an instruction leaves alone -/

/-- Outside `PBUF` and `RXBUF` bytes are stored only by a host write, by `CH.UNPACK` and by building a frame. -/
theorem effect_mem_out {i : Instr} (hc : builtCommand i = none) (hw : ∀ b, i ≠ .wrb b) (hu : i ≠ .chUnpack) (s : State)
    {a : Nat} (ha : a < 0x100 ∨ (0x1FC ≤ a ∧ a < 0x400)) : memRead (effect i s).mem a = memRead s.mem a :=
  have hp : a < 0x100 ∨ 0x1FC ≤ a := ha.imp_right And.left
  match i, hc with
  | .wrb b, _ => absurd rfl (hw b)
  | .chUnpack, _ => absurd rfl hu
  | .frmParse, _ => s.parseFrame_mem_out hp
  | .chPack, _ => s.packRecord_mem_out s.basicRecord_length hp
  | .dmrPack, _ => s.packRecord_mem_out s.dmrRecord_length hp
  | .dmrUnpack, _ => congrArg (memRead · a) s.unpackDmr_mem
  | .rsyByte b, _ => s.takeByte_mem_out b ha
  | .rsyTmo, _ => congrArg (memRead · a) s.deadline_mem
  | .nop, _ | .sel _, _ | .rdb, _ | .crcInit, _ | .crcUpd _, _ | .rsyStart, _ | .illegal _, _ => rfl

/-- `TXBUF` is written by building a frame and by nothing else (R45). -/
theorem effect_txbuf {i : Instr} (hc : builtCommand i = none) (s : State) {k : Nat} (hk : k < txbufSize) :
    (effect i s).txbuf k = s.txbuf k := by
  have hk' : k < 260 := hk
  have hbase : txbufBase = 0x200 := rfl
  by_cases hw : ∃ b, i = .wrb b
  · obtain ⟨b, rfl⟩ := hw
    exact laneWrite_txbuf s.ptr b s hk
  · by_cases hu : i = .chUnpack
    · subst hu
      exact s.unpackBasic_mem_out (by omega)
    · exact effect_mem_out hc (fun b hb => hw ⟨b, hb⟩) hu s (by omega)

/-- `TXLEN` is written by building a frame and by nothing else (R40). -/
theorem effect_txLen {i : Instr} (hc : builtCommand i = none) (s : State) : (effect i s).txLen = s.txLen := by
  cases i <;> cases hc <;> simp [effect]

/-! ### The transmit buffer holds a frame -/

theorem State.TxHoldsFrame.of_same {s t : State} (h : s.TxHoldsFrame) (hlen : t.txLen = s.txLen)
    (hbuf : ∀ k < txbufSize, t.txbuf k = s.txbuf k) : t.TxHoldsFrame := by
  refine h.imp hlen.trans ?_
  rintro ⟨c, p, hp, hn, hframe⟩
  refine ⟨c, p, hp, by rw [hlen, hn], ?_⟩
  rw [hlen, ← hframe]
  refine memReadBytes_congr _ _ _ _ fun k hk => hbuf k ?_
  simp only [payloadMax, txbufSize] at *
  omega

/-- A frame built is one of the encoder's; a payload that is too long leaves what was there (R136, R137). -/
theorem State.TxHoldsFrame.buildFrame {s : State} (h : s.TxHoldsFrame) (c : Byte) : (s.buildFrame c).TxHoldsFrame := by
  by_cases hp : s.pLen.toNat ≤ 252
  · have hlen : (s.buildFrame c).txLen.toNat = s.pLen.toNat + 8 := by
      rw [State.buildFrame_short c s hp]
      exact Nat.mod_eq_of_lt (by omega)
    refine .inr ⟨c, s.pbufBytes s.pLen.toNat, by simpa [payloadMax] using hp, by simpa using hlen, ?_⟩
    have hself := memReadBytes_writeBytes_self s.mem txbufBase (build c (s.pbufBytes s.pLen.toNat))
    rw [build_length, pbufBytes_length] at hself
    rw [hlen, State.buildFrame_short c s hp]
    exact hself
  · rw [State.buildFrame_long c s (by omega)]
    exact h

theorem State.TxHoldsFrame.effect {s : State} (h : s.TxHoldsFrame) (i : Instr) : (effect i s).TxHoldsFrame := by
  cases hc : builtCommand i with
  | none => exact h.of_same (effect_txLen hc s) fun _ hk => effect_txbuf hc s hk
  | some c =>
    rw [effect_of_builtCommand hc]
    exact h.buildFrame c

theorem State.TxHoldsFrame.step {s t : State} (h : s.TxHoldsFrame) (hst : step s = .next t) : t.TxHoldsFrame := by
  obtain ⟨-, hstep⟩ | ⟨p, rest, -, hstep⟩ | ⟨rest, -, hstep⟩ := step_cases s
  all_goals
    rw [hstep] at hst
    cases hst
  · exact h
  · exact State.TxHoldsFrame.effect (s := { s with inputs := rest }) h (decode p)
  · exact .inl rfl

/-! ### Parsing what the encoder made -/

/-- R141 on a candidate of magic, covered bytes and two received CRC bytes, whatever follows. -/
theorem parse_candidate (c : Byte) {p : List Byte} (hp : p.length ≤ payloadMax) (hi lo : Byte) (extra : List Byte) :
    parse (magic ++ crcCovered c p ++ [hi, lo] ++ extra) =
      .frame c p (join16 hi lo == crc16 (crcCovered c p)) := by
  simp only [payloadMax] at hp
  have hL : (BitVec.ofNat 8 (p.length + 3)).toNat = p.length + 3 := Nat.mod_eq_of_lt (by omega)
  simp only [parse, magic, crcCovered, List.cons_append, List.nil_append, List.append_assoc]
  simp [hL]
  omega

/-- The round trip R143. -/
theorem parse_build (c : Byte) {p : List Byte} (hp : p.length ≤ payloadMax) : parse (build c p) = .frame c p true := by
  have h := parse_candidate c hp (hi16 (crc16 (crcCovered c p))) (lo16 (crc16 (crcCovered c p))) []
  simpa [build, be16] using h

/-- Settles O57: a step keeps the frame, and a frame of the encoder's parses. -/
theorem transmitBufferAlwaysHoldsAFrame : Obligations.TransmitBufferAlwaysHoldsAFrame := by
  refine ⟨fun s t h hst => h.step hst, fun s h hne => ?_⟩
  obtain h0 | ⟨c, p, hp, -, hframe⟩ := h
  · exact absurd h0 hne
  · exact ⟨c, p, by rw [hframe, parse_build c hp]⟩

end Sys2Proof.Machine
end

section
/-! The decoder and the illegal words: a shape gives its operation or the illegal word, and the one item that decodes
to an illegal word, or to `CH.UNPACK`, is the word itself (R80, R81, R104). -/

namespace Sys2Proof.Machine

theorem opcOf_lt (w : Half) : opcOf w < 16 := (w.extractLsb' 12 4).isLt

/-- A word is its two fields (R80). -/
theorem toNat_eq_opcOf_argOf (w : Half) : w.toNat = 4096 * opcOf w + (argOf w).toNat := by
  have hw := w.isLt
  simp only [opcOf, argOf, BitVec.extractLsb'_toNat, Nat.shiftRight_eq_div_pow]
  omega

theorem shapeN_eq_illegal_iff {w v : Half} {i : Instr} (hi : i ≠ .illegal v) :
    shapeN w i = .illegal v ↔ w = v ∧ argOf w ≠ 0 := by
  by_cases h : argOf w = 0
  · rw [shapeN, if_pos h]
    exact ⟨fun hv => absurd hv hi, fun ha => absurd h ha.2⟩
  · rw [shapeN, if_neg h, Instr.illegal.injEq]
    exact (and_iff_left h).symm

theorem shapeB_eq_illegal_iff {w v : Half} {f : Byte → Instr} (hf : ∀ b, f b ≠ .illegal v) :
    shapeB w f = .illegal v ↔ w = v ∧ argHigh w ≠ 0 := by
  by_cases h : argHigh w = 0
  · rw [shapeB, if_pos h]
    exact ⟨fun hv => absurd hv (hf _), fun ha => absurd h ha.2⟩
  · rw [shapeB, if_neg h, Instr.illegal.injEq]
    exact (and_iff_left h).symm

theorem shapeN_eq_iff {w : Half} {i j : Instr} (hj : ∀ v, j ≠ .illegal v) :
    shapeN w i = j ↔ i = j ∧ argOf w = 0 := by
  by_cases h : argOf w = 0
  · rw [shapeN, if_pos h]
    exact (and_iff_left h).symm
  · rw [shapeN, if_neg h]
    exact ⟨fun hv => absurd hv.symm (hj w), fun ha => absurd ha.2 h⟩

theorem shapeB_eq_iff {w : Half} {f : Byte → Instr} {j : Instr} (hj : ∀ v, j ≠ .illegal v) :
    shapeB w f = j ↔ f (argByte w) = j ∧ argHigh w = 0 := by
  by_cases h : argHigh w = 0
  · rw [shapeB, if_pos h]
    exact (and_iff_left h).symm
  · rw [shapeB, if_neg h]
    exact ⟨fun hv => absurd hv.symm (hj w), fun ha => absurd ha.2 h⟩

/-- R104, in the words of the decoder: a word decodes to `illegal`, carrying itself, exactly when it is an illegal
word. -/
theorem decodeWord_eq_illegal_iff (w v : Half) : decodeWord w = .illegal v ↔ w = v ∧ illegalWord w = true := by
  have hlt := opcOf_lt w
  have hop : (w.extractLsb' 12 4).toNat = opcOf w := rfl
  have harg : w.extractLsb' 0 12 = argOf w := rfl
  have hhigh : w.extractLsb' 8 4 = argHigh w := rfl
  simp only [decodeWord, illegalWord, hop, harg, hhigh]
  split
  case h_16 =>
    have h15 : opcOf w = 15 := by
      simp only [imp_false] at *
      omega
    simp [h15]
  all_goals simp [*, shapeN_eq_illegal_iff, shapeB_eq_illegal_iff]

theorem decodeWire_ne_illegal (c : Byte) (v : Half) : decodeWire c ≠ .illegal v := by
  unfold decodeWire
  split <;> exact Instr.noConfusion

theorem decodeWire_ne_chUnpack (c : Byte) : decodeWire c ≠ .chUnpack := by
  unfold decodeWire
  split <;> exact Instr.noConfusion

/-- The one item that decodes to an illegal word is that word. -/
theorem decode_eq_illegal_iff (p : PortItem) (v : Half) : decode p = .illegal v ↔ p = .word v ∧ illegalWord v = true := by
  cases p with
  | word w =>
    rw [decode, decodeWord_eq_illegal_iff, PortItem.word.injEq]
    exact and_congr_right fun h => by rw [h]
  | wire c => simp [decode, decodeWire_ne_illegal]

theorem decodeWord_eq_chUnpack {w : Half} (h : decodeWord w = .chUnpack) : w = 0x9000 := by
  have hfields : opcOf w = 9 ∧ argOf w = 0 := by
    unfold decodeWord at h
    split at h
    all_goals simp_all [shapeN_eq_iff, shapeB_eq_iff]
  obtain ⟨hop, harg⟩ := hfields
  have hw := toNat_eq_opcOf_argOf w
  rw [hop, harg] at hw
  exact BitVec.eq_of_toNat_eq hw

theorem decode_eq_chUnpack {p : PortItem} (h : decode p = .chUnpack) : p = .word 0x9000 := by
  cases p with
  | word w => rw [decodeWord_eq_chUnpack h]
  | wire c => exact absurd h (decodeWire_ne_chUnpack c)
end Sys2Proof.Machine
end

section
/-! Which instruction writes which register: for each of the flags, the registers behind the host's port and the field
registers, the instructions that can change it (R24, R26, R27, R29, R30, R32, R35). -/

namespace Sys2Proof.Machine

/-! ### The registers of the CRC generator and of host access -/

theorem effect_crc (i : Instr) (s : State) : (effect i s).crc = s.crc ∨ i = .crcInit ∨ ∃ b, i = .crcUpd b := by
  cases i
  case crcInit => exact .inr (.inl rfl)
  case crcUpd b => exact .inr (.inr ⟨b, rfl⟩)
  all_goals exact .inl (by simp [effect])

theorem effect_ptr (i : Instr) (s : State) :
    (effect i s).ptr = s.ptr ∨ (∃ a, i = .sel a) ∨ (∃ b, i = .wrb b) ∨ i = .rdb := by
  cases i
  case sel a => exact .inr (.inl ⟨a, rfl⟩)
  case wrb b => exact .inr (.inr (.inl ⟨b, rfl⟩))
  case rdb => exact .inr (.inr (.inr rfl))
  all_goals exact .inl (by simp [effect])

theorem effect_dout (i : Instr) (s : State) : (effect i s).dout = s.dout ∨ i = .rdb := by
  cases i
  case rdb => exact .inr rfl
  all_goals exact .inl (by simp [effect])

/-- Settles O52: each register's writers, the transmit buffer's being the instructions that build a frame. -/
theorem registersHaveOnlyTheirWriters : Obligations.RegistersHaveOnlyTheirWriters := by
  intro i s
  refine ⟨effect i s, exec_eq_effect i s, effect_crc i s, effect_ptr i s, effect_dout i s, ?_, effect_params i s,
    effect_inputs i s⟩
  cases hc : builtCommand i with
  | none => exact .inl ⟨effect_txLen hc s, fun k hk => effect_txbuf hc s hk⟩
  | some c => exact .inr ((builtCommand_eq_some hc).imp_left fun h => ⟨c, h⟩)

/-! ### The field registers -/

theorem effect_basicRegisters {i : Instr} (hw : ∀ b, i ≠ .wrb b) (hu : i ≠ .chUnpack) (s : State) :
    (effect i s).rxMode = s.rxMode ∧ (effect i s).txMode = s.txMode ∧ (effect i s).rxFreq = s.rxFreq ∧
      (effect i s).txFreq = s.txFreq ∧ (effect i s).rxTone = s.rxTone ∧ (effect i s).txTone = s.txTone ∧
      (effect i s).nameLen = s.nameLen := by
  cases i
  case wrb b => exact absurd rfl (hw b)
  case chUnpack => exact absurd rfl hu
  all_goals simp [effect]

theorem effect_dmrRegisters {i : Instr} (hw : ∀ b, i ≠ .wrb b) (hu : i ≠ .dmrUnpack) (s : State) :
    (effect i s).rxCc = s.rxCc ∧ (effect i s).txCc = s.txCc ∧ (effect i s).slot = s.slot ∧
      (effect i s).callId = s.callId ∧ (effect i s).ownId = s.ownId ∧ (effect i s).callFmt = s.callFmt := by
  cases i
  case wrb b => exact absurd rfl (hw b)
  case dmrUnpack => exact absurd rfl hu
  all_goals simp [effect]

theorem effect_idx {i : Instr} (hw : ∀ b, i ≠ .wrb b) (hch : i ≠ .chUnpack) (hdmr : i ≠ .dmrUnpack) (s : State) :
    (effect i s).idx = s.idx := by
  cases i
  case wrb b => exact absurd rfl (hw b)
  case chUnpack => exact absurd rfl hch
  case dmrUnpack => exact absurd rfl hdmr
  all_goals simp [effect]

/-- `NAMECH` is written by a host write and by `CH.UNPACK`: a built frame goes to `TXBUF`. -/
theorem effect_namech {i : Instr} (hw : ∀ b, i ≠ .wrb b) (hu : i ≠ .chUnpack) (s : State) {k : Nat}
    (hk : k < namechSize) : (effect i s).namech k = s.namech k := by
  have hk' : namechBase + k < 0x40 := Nat.add_lt_add_left hk namechBase
  cases hc : builtCommand i with
  | none => exact effect_mem_out hc hw hu s (by omega)
  | some c =>
    rw [effect_of_builtCommand hc]
    exact s.buildFrame_mem_out c (by omega)

/-- Settles O53, group by group. -/
theorem fieldRegistersHaveOnlyTheirWriters : Obligations.FieldRegistersHaveOnlyTheirWriters := by
  refine fun i s => ⟨effect i s, exec_eq_effect i s, fun hw => ⟨fun hu => ?_, ?_, ?_⟩⟩
  · obtain ⟨hrm, htm, hrf, htf, hrt, htt, hn⟩ := effect_basicRegisters hw hu s
    exact ⟨hrm, htm, hrf, htf, hrt, htt, hn, fun k hk => effect_namech hw hu s hk⟩
  · exact fun hu => effect_dmrRegisters hw hu s
  · exact fun hch hdmr => effect_idx hw hch hdmr s

/-! ### `CRCOK` -/

theorem State.huntByte_crcOk (s : State) (b : Byte) :
    (s.huntByte b).crcOk = s.crcOk ∨ (s.huntByte b).rstate = .done := by
  unfold State.huntByte State.scanned
  split
  · exact .inl rfl
  · split
    · exact .inr rfl
    · exact .inl rfl

theorem State.lenByte_crcOk (s : State) (b : Byte) :
    (s.lenByte b).crcOk = s.crcOk ∨ (s.lenByte b).rstate = .done := by
  unfold State.lenByte
  split
  · exact .inr (State.complete_rstate _)
  · exact .inl rfl

theorem State.bodyByte_crcOk (s : State) (b : Byte) :
    (s.bodyByte b).crcOk = s.crcOk ∨ (s.bodyByte b).rstate = .done := by
  unfold State.bodyByte
  split
  · exact .inr (State.complete_rstate _)
  · exact .inl (s.collect_crcOk b)

/-- A byte writes `CRCOK` only when it enters DONE. -/
theorem State.takeByte_crcOk (s : State) (b : Byte) :
    (s.takeByte b).crcOk = s.crcOk ∨ (s.rstate ≠ .done ∧ (s.takeByte b).rstate = .done) := by
  cases h : s.rstate with
  | idle => exact .inl (by rw [State.takeByte_idle b h]; rfl)
  | done => exact .inl (by rw [State.takeByte_done b h]; rfl)
  | hunt =>
    rw [State.takeByte_hunt b h]
    exact (s.huntByte_crcOk b).imp_right fun hd => ⟨RState.noConfusion, hd⟩
  | len =>
    rw [State.takeByte_len b h]
    exact (s.lenByte_crcOk b).imp_right fun hd => ⟨RState.noConfusion, hd⟩
  | body =>
    rw [State.takeByte_body b h]
    exact (s.bodyByte_crcOk b).imp_right fun hd => ⟨RState.noConfusion, hd⟩

/-- The deadline writes `CRCOK` only when it is accepted. -/
theorem State.deadline_crcOk (s : State) : s.deadline.crcOk = s.crcOk ∨ s.deadline.resp = 1 := by
  obtain h | h := s.armed_or_not
  · exact .inr (by rw [State.deadline_armed h]; rfl)
  · exact .inl (by rw [State.deadline_unarmed h]; rfl)

/-- Settles O50: of the operations with several outcomes a byte and the deadline have lemmas of their own. -/
theorem crcOkIsWrittenOnlyByParsesAndEnds : Obligations.CrcOkIsWrittenOnlyByParsesAndEnds := by
  intro i s
  refine ⟨effect i s, exec_eq_effect i s, ?_⟩
  cases i
  case frmParse => exact .inr (.inl rfl)
  case rsyStart => exact .inr (.inr (.inl rfl))
  case rsyTmo => exact s.deadline_crcOk.imp_right fun hr => .inr (.inr (.inl ⟨rfl, hr⟩))
  case rsyByte b => exact (s.takeByte_crcOk b).imp_right fun hd => .inr (.inr (.inr ⟨⟨b, rfl⟩, hd⟩))
  all_goals exact .inl (by simp [effect])

/-! ### `ILL` and `NOTERM` -/

theorem effect_ill (i : Instr) (s : State) : (effect i s).ill = true ↔ s.ill = true ∨ ∃ w, i = .illegal w := by
  cases i
  case illegal w => exact ⟨fun _ => .inr ⟨w, rfl⟩, fun _ => rfl⟩
  all_goals simp [effect]

theorem effect_noTerm (i : Instr) (s : State) :
    (effect i s).noTerm = s.noTerm ∨ (i = .chUnpack ∧ s.pLen = 26) := by
  cases i
  case chUnpack =>
    by_cases hp : s.pLen = 26
    · exact .inr ⟨rfl, hp⟩
    · exact .inl (by rw [effect, State.unpackBasic_short s hp]; rfl)
  all_goals exact .inl (by simp [effect])

/-- The name field is full when no NUL is among its bytes (R165). -/
theorem State.fieldName_length_eq_iff (s : State) :
    s.fieldName.length = nameFieldLen ↔ ∀ k < 12, s.pbuf (14 + k) ≠ 0 := by
  have hlen : (memReadBytes s.mem (pbufBase + 14) nameFieldLen).length = 12 := memReadBytes_length _ _ _
  calc s.fieldName.length = nameFieldLen
      ↔ s.fieldName = memReadBytes s.mem (pbufBase + 14) nameFieldLen := by
        constructor
        · exact fun h => (List.takeWhile_sublist _).eq_of_length (h.trans hlen.symm)
        · exact fun h => by rw [h, hlen]; rfl
    _ ↔ ∀ b ∈ memReadBytes s.mem (pbufBase + 14) nameFieldLen, (b != 0) = true := List.takeWhile_eq_self_iff
    _ ↔ ∀ k < 12, s.pbuf (14 + k) ≠ 0 := by
        rw [List.forall_mem_iff_forall_getElem]
        simp [memReadBytes_getElem, State.pbuf, nameFieldLen, Nat.add_assoc]

/-- `CH.UNPACK` of a record says whether its name field was full (R35, R165). -/
theorem effect_chUnpack_noTerm {s : State} (hp : s.pLen = 26) :
    (effect .chUnpack s).noTerm = true ↔ ∀ k < 12, s.pbuf (14 + k) ≠ 0 := by
  rw [← s.fieldName_length_eq_iff, effect, State.unpackBasic_record s hp]
  exact beq_iff_eq

/-! ### The sticky `ILL` and `NOTERM`, over steps -/

/-- Settles O51: only the step that performs an item is not immediate, and there the item decides who writes. -/
theorem illIsStickyAndNotermHasOneWriter : Obligations.IllIsStickyAndNotermHasOneWriter := by
  intro s
  obtain ⟨hin, hstep⟩ | ⟨p, rest, hin, hstep⟩ | ⟨rest, hin, hstep⟩ := step_cases s
  · exact ⟨s, hstep, fun _ => ⟨by simp [hin], .inl rfl⟩, by simp [hin], by simp [hin]⟩
  · refine ⟨_, hstep, fun _ => ⟨?_, ?_⟩, fun rest' h hp => ?_, by simp [hin]⟩
    · simp [effect_ill, decode_eq_illegal_iff, hin]
    · refine (effect_noTerm _ _).imp_right fun ⟨hch, hp⟩ => ⟨⟨rest, ?_⟩, hp⟩
      rw [hin, decode_eq_chUnpack hch]
    · rw [hin] at h
      cases h
      exact effect_chUnpack_noTerm (s := { s with inputs := rest }) hp
  · exact ⟨_, hstep, fun h => absurd hin (h rest), by simp [hin], fun _ _ => ⟨rfl, rfl⟩⟩

end Sys2Proof.Machine
end

section
/-! The lanes `STAT`, `RSTATE` and `ERR` (R31 to R36, R241), and the state the reset event leaves (R48). -/

namespace Sys2Proof.Machine

/-! ### The status lane -/

theorem getLsbD_flagBit (b : Bool) {k i : Nat} (hi : i < 8) : (flagBit b k).getLsbD i = (b && decide (k = i)) := by
  cases b with
  | false => exact BitVec.getLsbD_zero
  | true =>
    rw [flagBit, if_pos rfl, BitVec.getLsbD_ofNat, Nat.testBit_two_pow]
    simp [hi]

/-- The layout of `STAT` (R31): its flags from bit 0 on. -/
theorem State.getLsbD_stat (s : State) {i : Nat} (hi : i < 8) :
    s.stat.getLsbD i = [s.crcOk, s.rxRdy, s.isDone, s.isEmpty, s.isDmr, s.ill, s.noTerm].getD i false := by
  simp only [State.stat, BitVec.getLsbD_or, getLsbD_flagBit _ hi]
  interval_cases i <;> simp

theorem State.rxRdy_iff (s : State) : s.rxRdy = true ↔ s.rstate = .hunt ∨ s.rstate = .len ∨ s.rstate = .body := by
  unfold State.rxRdy
  split <;> simp [*]

theorem State.isDone_iff (s : State) : s.isDone = true ↔ s.rstate = .done := beq_iff_eq

theorem State.isEmpty_iff (s : State) : s.isEmpty = true ↔ s.rxMode = s.params.modeUnused ∨ s.rxFreq = 0 := by
  rw [State.isEmpty, Bool.or_eq_true, beq_iff_eq, beq_iff_eq]

theorem State.isDmr_iff (s : State) : s.isDmr = true ↔ s.rxMode = s.params.modeDmr := beq_iff_eq

theorem laneRead_stat (s : State) : laneRead s 0x040 = s.stat := rfl

/-- Settles O11: the layout gives each bit its flag, and each derived flag has its condition. -/
theorem statusLaneBits : Obligations.StatusLaneBits := by
  intro s
  simp only [laneRead_stat, State.getLsbD_stat, Nat.reduceLT]
  exact ⟨Iff.rfl, s.rxRdy_iff, s.isDone_iff, s.isEmpty_iff, s.isDmr_iff, Iff.rfl, Iff.rfl, rfl⟩

/-! ### The numbers of `RSTATE` and `ERR` -/

/-- Settles O12, state by state and code by code. -/
theorem stateAndResultNumbers : Obligations.StateAndResultNumbers := by
  intro s
  have hstate : laneRead s 0x04A = s.rstate.code := rfl
  have herr : laneRead s 0x041 = s.err.code := rfl
  rw [hstate, herr]
  constructor
  · cases s.rstate <;> rfl
  · cases s.err <;> rfl

/-! ### Reset -/

theorem step_of_reset {s : State} {rest : List Input} (h : s.inputs = .resetEvent :: rest) :
    step s = .next { State.reset with params := s.params, inputs := rest, freeCtr := s.freeCtr } := by
  simp only [step, h]
  rfl

/-- Settles O8: each field of `State.reset` holds its value of the table of R48, and with no byte listed every buffer
reads 0x00. -/
theorem resetPutsEveryPieceToItsValue : Obligations.ResetPutsEveryPieceToItsValue := by
  refine ⟨fun s rest h => step_of_reset h, ?_⟩
  rintro s ⟨p, r, n, rfl⟩
  and_intros
  all_goals
    intros
    rfl

/-- Settles O9: at reset `RXMODE` and `RXFREQ` are 0, so `EMPTY` holds, and `ISDMR` when `MODE_DMR` is 0. -/
theorem statusAfterReset : Obligations.StatusAfterReset := by
  intro p r n b s hs
  have hempty : s.isEmpty = true := s.isEmpty_iff.2 (.inr (by rw [hs]; rfl))
  have hdmr : s.isDmr = true ↔ p.modeDmr = 0 := by
    rw [State.isDmr_iff, hs]
    exact eq_comm
  refine ⟨?_, by rw [hs]; rfl, by rw [hs]; rfl⟩
  rw [laneRead_stat, State.stat, hempty]
  split
  · next h =>
    rw [hdmr.2 h]
    simp [hs, State.reset, State.rxRdy, State.isDone, flagBit]
  · next h =>
    rw [Bool.eq_false_iff.2 (mt hdmr.1 h)]
    simp [hs, State.reset, State.rxRdy, State.isDone, flagBit]

theorem configParams_valid : Config.params.Valid := by
  unfold Config.params
  split
  · assumption
  · decide

theorem State.reset_inv (p : Params) (r : List Input) (hp : p.Valid) :
    ({ State.reset with params := p, inputs := r } : State).Inv where
  paramsValid := hp
  memCanonical := Memory.wf_reset
  memInBuffers := fun _ hc => nomatch hc
  errRaised := ⟨ResultCode.noConfusion, ResultCode.noConfusion⟩
  resyncOk := ⟨rfl, rfl, rfl, rfl, rfl⟩

/-- Settles O55: `State.reset` is the reset state of `Config.params`, which are valid. -/
theorem invariantHoldsAtReset : Obligations.InvariantHoldsAtReset :=
  ⟨State.reset_inv Config.params [] configParams_valid, .inl rfl, State.reset_inv⟩

end Sys2Proof.Machine
end

section
/-! The lane map read through (R61, R66), and the host's writes: which lanes take a byte (R67, R112), what a write
cannot reach (R114), and what a string of writes loads (R108). -/

namespace Sys2Proof.Machine

/-! ### Reading by address -/

theorem toNat_lane_add (base : LaneAddr) {i : Nat} (h : base.toNat + i < 0x1000) :
    (base + BitVec.ofNat 12 i).toNat = base.toNat + i := by
  rw [BitVec.toNat_add, BitVec.toNat_ofNat, Nat.add_mod_mod, Nat.mod_eq_of_lt h]

/-- The entries of an array read in turn from its first lane on. -/
theorem laneRead_array {lane : Nat → Lane} {base : LaneAddr} {n : Nat} (hn : base.toNat + n ≤ 0x1000)
    (hlane : ∀ a : LaneAddr, base.toNat ≤ a.toNat ∧ a.toNat < base.toNat + n → laneAt a = lane (a.toNat - base.toNat))
    (s : State) : ∀ i < n, laneRead s (base + BitVec.ofNat 12 i) = (lane i).get s := by
  intro i hi
  have ha := toNat_lane_add base (i := i) (by omega)
  rw [laneRead, hlane _ (by omega), ha, Nat.add_sub_cancel_left]

theorem laneRead_namech (s : State) : ∀ i < 32, laneRead s (0x020 + BitVec.ofNat 12 i) = s.namech i :=
  laneRead_array (lane := .namech) (base := 0x020) (n := 32) (by decide) laneAt_namech s

theorem laneRead_pbuf (s : State) : ∀ i < 252, laneRead s (0x100 + BitVec.ofNat 12 i) = s.pbuf i :=
  laneRead_array (lane := .pbuf) (base := 0x100) (n := 252) (by decide) laneAt_pbuf s

theorem laneRead_txbuf (s : State) : ∀ i < 260, laneRead s (0x200 + BitVec.ofNat 12 i) = s.txbuf i :=
  laneRead_array (lane := .txbuf) (base := 0x200) (n := 260) (by decide) laneAt_txbuf s

theorem laneRead_rxbuf (s : State) : ∀ i < 512, laneRead s (0x400 + BitVec.ofNat 12 i) = s.rxbuf i :=
  laneRead_array (lane := .rxbuf) (base := 0x400) (n := 512) (by decide) laneAt_rxbuf s

/-- Four lanes that hold the bytes of a 32-bit value hold it big-endian (R62). -/
theorem laneRead_bigEndian {s : State} {a : LaneAddr} {v : Word} (h3 : laneRead s a = byte32 v 3)
    (h2 : laneRead s (a + 1) = byte32 v 2) (h1 : laneRead s (a + 2) = byte32 v 1)
    (h0 : laneRead s (a + 3) = byte32 v 0) :
    ∀ k < 4, laneRead s (a + BitVec.ofNat 12 k) = v.extractLsb' (24 - 8 * k) 8
  | 0, _ => (congrArg (laneRead s) (BitVec.add_zero a)).trans h3
  | 1, _ => h2
  | 2, _ => h1
  | 3, _ => h0

theorem laneRead_unmapped (s : State) (a : LaneAddr)
    (h : (0x01B ≤ a.toNat ∧ a.toNat < 0x020) ∨ (0x056 ≤ a.toNat ∧ a.toNat < 0x100) ∨
      (0x1FC ≤ a.toNat ∧ a.toNat < 0x200) ∨ (0x304 ≤ a.toNat ∧ a.toNat < 0x400) ∨ 0x600 ≤ a.toNat) :
    laneRead s a = 0 := by
  rw [laneRead, laneAt_unmapped a h]
  rfl

/-- Settles O10: a lane at a fixed address is computed, a wide register is its four lanes, and an array and an unmapped
range have the lemma of that range. -/
theorem laneMapReads : Obligations.LaneMapReads := by
  intro s
  have wide {a : LaneAddr} {v : Word} := laneRead_bigEndian (s := s) (a := a) (v := v)
  exact ⟨rfl, rfl, rfl, rfl, wide rfl rfl rfl rfl, wide rfl rfl rfl rfl, rfl, rfl, rfl, rfl, rfl, rfl,
    wide rfl rfl rfl rfl, wide rfl rfl rfl rfl, rfl, laneRead_namech s, rfl, rfl, rfl, rfl, rfl, rfl, rfl, rfl, rfl, rfl,
    rfl, rfl, rfl, rfl, rfl, rfl, rfl, wide rfl rfl rfl rfl, rfl, laneRead_pbuf s, laneRead_txbuf s, laneRead_rxbuf s,
    laneRead_unmapped s⟩

/-! ### The lanes a host write reaches -/

theorem lowLane_writable_iff (a : Nat) :
    (lowLane a).writable = true ↔ a < 0x01B ∨ a = 0x044 ∨ a = 0x045 ∨ a = 0x048 ∨ a = 0x049 := by
  by_cases ha : a < 0x056
  · revert a
    decide
  · rw [lowLane_unmapped a (by omega)]
    exact iff_of_false Bool.false_ne_true (by omega)

/-- The access column of R61. -/
theorem laneAt_writable_iff (a : LaneAddr) :
    (laneAt a).writable = true ↔
      (a.toNat < 0x01B ∨ a.toNat = 0x044 ∨ a.toNat = 0x045 ∨ a.toNat = 0x048 ∨ a.toNat = 0x049) ∨
        (0x020 ≤ a.toNat ∧ a.toNat < 0x040) ∨ (0x100 ≤ a.toNat ∧ a.toNat < 0x1FC) ∨
        (0x400 ≤ a.toNat ∧ a.toNat < 0x600) := by
  by_cases hn : 0x020 ≤ a.toNat ∧ a.toNat < 0x040
  · simp [laneAt_namech a hn, Lane.writable, hn]
  by_cases hp : 0x100 ≤ a.toNat ∧ a.toNat < 0x1FC
  · simp [laneAt_pbuf a hp, Lane.writable, hp]
  by_cases hr : 0x400 ≤ a.toNat ∧ a.toNat < 0x600
  · simp [laneAt_rxbuf a hr, Lane.writable, hr]
  by_cases ht : 0x200 ≤ a.toNat ∧ a.toNat < 0x304
  · rw [laneAt_txbuf a ht]
    exact iff_of_false Bool.false_ne_true (by omega)
  · simp only [laneAt_low a ⟨hn, hp, ht, hr⟩, lowLane_writable_iff, hn, hp, hr, or_false]

theorem laneAt_eq_rxlenh {a : LaneAddr} (h : laneAt a = .rxlenh) : a = 0x048 :=
  laneAt_injective (b := 0x048) h (by rw [h]; exact Lane.noConfusion)

theorem laneAt_eq_stat {a : LaneAddr} (h : laneAt a = .stat) : a = 0x040 :=
  laneAt_injective (b := 0x040) h (by rw [h]; exact Lane.noConfusion)

theorem laneRead_laneWrite_self {a : LaneAddr} (hw : (laneAt a).writable = true) (hr : a ≠ 0x048) (v : Byte)
    (s : State) : laneRead (laneWrite a v s) a = v :=
  (laneAt a).get_put_self v s hw (mt laneAt_eq_rxlenh hr)

/-- Lanes apart do not see each other's writes; `STAT` is derived from other lanes (R31). -/
theorem laneRead_laneWrite_other {a c : LaneAddr} (hne : c ≠ a) (hs : c ≠ 0x040) (v : Byte) (s : State) :
    laneRead (laneWrite a v s) c = laneRead s c := by
  by_cases hu : laneAt c = .unmapped
  · simp only [laneRead, hu, Lane.get]
  · exact (laneAt a).get_put_other (laneAt c) v s (fun h => hne (laneAt_injective h hu)) (mt laneAt_eq_stat hs)
      (laneAt_inRange a) (laneAt_inRange c)

/-! ### `WRB` -/

/-- No lane shows `PTR` or the response. -/
theorem laneRead_with_ptr_resp (s : State) (p : LaneAddr) (r : Byte) (a : LaneAddr) :
    laneRead { s with ptr := p, resp := r } a = laneRead s a := by
  unfold laneRead
  cases laneAt a <;> rfl

/-- No write depends on `PTR` or the response. -/
theorem laneWrite_with_ptr_resp (a : LaneAddr) (v : Byte) (s : State) (p : LaneAddr) (r : Byte) :
    laneWrite a v { s with ptr := p, resp := r } = { laneWrite a v s with ptr := p, resp := r } := by
  unfold laneWrite
  cases laneAt a <;> rfl

theorem effect_wrb (b : Byte) (s : State) :
    effect (.wrb b) s = { laneWrite s.ptr b s with ptr := s.ptr + 1, resp := 0 } := by
  simp [effect, State.advancePtr, State.respond]

theorem decode_wrb (b : Byte) : decode (.word ((0x20 : Byte) ++ b)) = .wrb b := by
  have hw : ((0x20 : Byte) ++ b : Half) = (0x2 : BitVec 4) ++ ((0x0 : BitVec 4) ++ b) := by
    revert b
    decide
  have hshape := shapeB_eq_iff (w := (0x2 : BitVec 4) ++ ((0x0 : BitVec 4) ++ b)) (f := .wrb) (j := .wrb b)
    fun _ => Instr.noConfusion
  rw [hw, decode, decodeWord, opcOf_append]
  exact hshape.2 ⟨congrArg _ (argByte_append _ _ _), argHigh_append _ _ _⟩

/-- Settles O15: `WRB` is the write to the lane at `PTR`, and the access column says what that write does. -/
theorem wrbStoresIntoTheSelectedLane : Obligations.WrbStoresIntoTheSelectedLane := by
  intro b s
  have hacc := laneAt_writable_iff s.ptr
  refine ⟨decode_wrb b, _, exec_eq_effect _ _, ?_⟩
  simp only [effect_wrb, laneRead_with_ptr_resp, List.mem_cons, List.not_mem_nil, or_false]
  refine ⟨BitVec.toNat_add _ _, trivial, fun hrw => ?_, fun hlenh => ?_, fun hro => ?_, fun a hne hs => ?_⟩
  · exact laneRead_laneWrite_self (hacc.2 (by bv_omega)) (by bv_omega) b s
  · rw [hlenh]
    exact Lane.get_put_rxlenh b s
  · have hw : (laneAt s.ptr).writable = false := Bool.eq_false_iff.2 (mt hacc.1 (by bv_omega))
    rw [laneWrite, Lane.put_readOnly _ b s hw]
  · exact laneRead_laneWrite_other hne hs b s

/-- Settles O16: a host write reaches no lane of `TXBUF`, and the other registers named here have no lane that takes
a byte. -/
theorem wrbCannotTouchReadOnlyState : Obligations.WrbCannotTouchReadOnlyState := by
  intro b s
  refine ⟨_, exec_eq_effect _ _, ?_⟩
  rw [effect_wrb]
  exact ⟨fun i hi => laneWrite_txbuf s.ptr b s hi, by simp⟩

/-! ### A string of writes -/

/-- Bytes written to rising lanes from `a`. -/
def laneWrites : LaneAddr → List Byte → State → State
  | _, [], s => s
  | a, b :: bs, s => laneWrites (a + 1) bs (laneWrite a b s)

theorem execAll_wrbs (a : LaneAddr) (bs : List Byte) (s : State) :
    execAll (bs.map .wrb) { s with ptr := a, resp := 0 } =
      .next { laneWrites a bs s with ptr := a + BitVec.ofNat 12 bs.length, resp := 0 } := by
  induction bs generalizing a s with
  | nil => simp [execAll, laneWrites]
  | cons b bs ih =>
    have ha : a + BitVec.ofNat 12 (bs.length + 1) = a + 1 + BitVec.ofNat 12 bs.length := by
      rw [BitVec.ofNat_add, BitVec.add_assoc, BitVec.add_comm 1]
      rfl
    rw [List.map_cons, execAll, exec_eq_effect, effect_wrb, laneWrite_with_ptr_resp, List.length_cons, ha]
    exact ih (a + 1) (laneWrite a b s)

/-- `WRS` writes its bytes to the lanes from the selected one on and leaves `PTR` after them (R108). -/
theorem execAll_pseudoWrs (a : LaneAddr) (bs : List Byte) (s : State) :
    execAll (pseudoWrs a bs) s =
      .next { laneWrites a bs s with ptr := a + BitVec.ofNat 12 bs.length, resp := 0 } :=
  execAll_wrbs a bs s

/-- All four bytes replaced leave nothing of the old value. -/
theorem setByte32_all (v : Word) (b3 b2 b1 b0 : Byte) :
    setByte32 (setByte32 (setByte32 (setByte32 v 3 b3) 2 b2) 1 b1) 0 b0 = b3 ++ b2 ++ b1 ++ b0 := by
  simp [setByte32, append4_eq_join32]

/-- Settles O18: the four lanes are the bytes 3 to 0 of the register. -/
theorem fourWritesLoadAWideRegister : Obligations.FourWritesLoadAWideRegister := by
  intro b3 b2 b1 b0 s
  simp [execAll_pseudoWrs, laneWrites, laneWrite, Lane.put, setByte32_all]

end Sys2Proof.Machine
end

section
/-! The encoder against the decoder (R80 to R82, R89, R104): on operation words each undoes the other, so what a word
decodes to is read off the bits of an encoding. -/

namespace Sys2Proof.Machine

/-! ### Decoding what was encoded -/

theorem decodeWord_sel (a : LaneAddr) : decodeWord ((0x1 : BitVec 4) ++ a) = .sel a := by
  rw [decodeWord, opcOf_append, argOf_append]
  rfl

/-- A shape `B` word carries its operand. -/
theorem shapeB_append (o : BitVec 4) (b : Byte) (f : Byte → Instr) : shapeB (o ++ ((0 : BitVec 4) ++ b)) f = f b := by
  rw [shapeB, argHigh_append, if_pos rfl, argByte_append]

theorem decode_wordB {o : BitVec 4} {f : Byte → Instr} (hrow : ∀ w, opcOf w = o.toNat → decodeWord w = shapeB w f)
    (b : Byte) : decode (wordB o b) = f b :=
  (hrow _ (opcOf_append _ _)).trans (shapeB_append o b f)

/-- Without an operand the encoding is one fixed item; with one, the fields of the joined word are the parts joined. -/
theorem decode_encode {i : Instr} (hi : i.wellFormed = true) : decode (encode i) = i := by
  cases i
  case illegal w => exact (decodeWord_eq_illegal_iff w w).2 ⟨rfl, hi⟩
  case sel a => exact decodeWord_sel a
  case wrb b | crcUpd b | frmBuild b | rsyByte b => exact decode_wordB (fun w h => by rw [decodeWord, h]; rfl) b
  all_goals rfl

/-- Settles O1. -/
theorem decodeOfEncodeIsTheInstruction : Obligations.DecodeOfEncodeIsTheInstruction :=
  fun _ => decode_encode

/-- Settles O5: each item is the encoding of its operation. -/
theorem wordsOfTheSpecDecode : Obligations.WordsOfTheSpecDecode :=
  ⟨decode_encode (i := .sel 0x100) rfl, decode_encode (i := .wrb 0x1A) rfl, decode_encode (i := .crcUpd 0x31) rfl,
    decode_encode (i := .frmBuild 0x41) rfl, decode_encode (i := .chPack) rfl, decode_encode (i := .dmrUnpack) rfl,
    decode_encode (i := .rsyByte 0xA5) rfl, decode_encode (i := .illegal 0xF000) rfl, decode_encode (i := .cmd44) rfl⟩

/-! ### Encoding what was decoded -/

theorem extract_append_argOf (w : Half) : w.extractLsb' 12 4 ++ argOf w = w :=
  BitVec.extractLsb'_append_extractLsb' (w := 4) (len := 12)

theorem argHigh_append_argByte (w : Half) : argHigh w ++ argByte w = argOf w :=
  BitVec.extractLsb'_append_extractLsb'_eq_extractLsb' rfl

theorem append_argOf {o : BitVec 4} {w : Half} (h : opcOf w = o.toNat) : o ++ argOf w = w := by
  rw [← BitVec.eq_of_toNat_eq h]
  exact extract_append_argOf w

theorem encode_shapeN {w : Half} {i : Instr} {o : BitVec 4} (hi : encode i = wordN o) (h : opcOf w = o.toNat) :
    encode (shapeN w i) = .word w := by
  unfold shapeN
  split
  next harg => rw [hi, wordN, ← harg, append_argOf h]
  next => rfl

theorem encode_shapeB {w : Half} {f : Byte → Instr} {o : BitVec 4} (hf : ∀ b, encode (f b) = wordB o b)
    (h : opcOf w = o.toNat) : encode (shapeB w f) = .word w := by
  unfold shapeB
  split
  next hhigh => rw [hf, wordB, ← hhigh, argHigh_append_argByte, append_argOf h]
  next => rfl

/-- The cases are the rows of the operation map: `SEL`, the four of shape `B`, the reserved one, and those of shape
`N`. -/
theorem encode_decodeWord (w : Half) : encode (decodeWord w) = .word w := by
  unfold decodeWord
  split
  case h_2 h => exact congrArg PortItem.word (append_argOf h)
  case h_3 h | h_6 h | h_7 h | h_14 h => exact encode_shapeB (fun _ => rfl) h
  case h_16 => rfl
  all_goals
    next h => exact encode_shapeN rfl h

theorem decodeWire_unnamed {c : Byte}
    (hc : c ∉ ([0x07, 0x0A, 0x0B, 0x27, 0x28, 0x29, 0x39, 0x40, 0x41, 0x43, 0x44] : List Byte)) :
    decodeWire c = .frmBuild c := by
  unfold decodeWire
  split
  case h_12 => rfl
  all_goals
    next h => simp [← BitVec.toNat_inj, h] at hc

theorem decode_wellFormed (p : PortItem) : (decode p).wellFormed = true := by
  cases h : decode p
  case illegal v => exact ((decode_eq_illegal_iff p v).1 h).2
  all_goals rfl

/-- Settles O2: the eleven named bytes are computed. -/
theorem encodeOfDecodeIsTheItem : Obligations.EncodeOfDecodeIsTheItem :=
  ⟨encode_decodeWord, by decide, fun _ => decodeWire_unnamed, decode_wellFormed⟩

/-! ### Match and mask -/

theorem decode_word_eq_iff {i : Instr} (hi : i.wellFormed = true) (w : Half) :
    decode (.word w) = i ↔ encode i = .word w :=
  ⟨fun h => h ▸ encode_decodeWord w, fun h => h ▸ decode_encode hi⟩

/-- Masking the high part compares the high part. -/
theorem and_high_eq_iff {m n : Nat} (w : BitVec (m + n)) (o : BitVec m) :
    w &&& (BitVec.allOnes m ++ 0#n) = o ++ 0#n ↔ o ++ w.setWidth n = w := by
  have hw := BitVec.extractLsb'_append_extractLsb' (x := w)
  generalize w.extractLsb' n m = hi, w.extractLsb' 0 n = lo at hw
  subst hw
  rw [BitVec.and_append, BitVec.and_allOnes, BitVec.and_zero, BitVec.append_left_inj, BitVec.setWidth_append_eq_right,
    BitVec.append_left_inj, eq_comm]

theorem mask_selects_sel (w : Half) : w &&& 0xF000 = 0x1000 ↔ decode (.word w) = .sel (w.setWidth 12) := by
  rw [decode_word_eq_iff rfl, encode, PortItem.word.injEq]
  exact and_high_eq_iff (m := 4) (n := 12) w 0x1

theorem mask_selects_shapeN (o : BitVec 4) {i : Instr} (hi : i.wellFormed = true ∧ encode i = wordN o) (w : Half) :
    w &&& 0xFFFF = o ++ (0 : BitVec 12) ↔ decode (.word w) = i := by
  have hall : w &&& 0xFFFF = w := BitVec.and_allOnes
  rw [hall, decode_word_eq_iff hi.1, hi.2, wordN, PortItem.word.injEq, eq_comm]

theorem mask_selects_shapeB (o : BitVec 4) {f : Byte → Instr}
    (hf : ∀ b, (f b).wellFormed = true ∧ encode (f b) = wordB o b) (w : Half) :
    w &&& 0xFF00 = o ++ (0 : BitVec 12) ↔ decode (.word w) = f (w.setWidth 8) := by
  have hbyte (b : Byte) : o ++ ((0 : BitVec 4) ++ b) = o ++ (0 : BitVec 4) ++ b := BitVec.append_assoc'
  rw [decode_word_eq_iff (hf _).1, (hf _).2, wordB, PortItem.word.injEq, hbyte, ← and_high_eq_iff (m := 8) (n := 8)]
  exact Iff.of_eq (congrArg _ (hbyte 0))

theorem decodeWord_reserved {w : Half} (h : w &&& 0xF000 = 0xF000) : decodeWord w = .illegal w := by
  have hw : (0xF : BitVec 4) ++ w.setWidth 12 = w := (and_high_eq_iff (m := 4) (n := 12) w 0xF).1 h
  have ho : opcOf w = 0xF := by
    rw [← hw, opcOf_append]
    rfl
  rw [decodeWord, ho]
  rfl

/-- Settles O3: a row's mask leaves its shape's fixed part, and a word with a row's fixed part is an encoding of that
row's operation. -/
theorem operationMapFollowsMatchAndMask : Obligations.OperationMapFollowsMatchAndMask := fun w =>
  have bare (o : BitVec 4) {i : Instr} := mask_selects_shapeN o (i := i)
  have byte (o : BitVec 4) {f : Byte → Instr} := mask_selects_shapeB o (f := f)
  ⟨bare 0x0 ⟨rfl, rfl⟩ w, mask_selects_sel w, byte 0x2 (fun _ => ⟨rfl, rfl⟩) w, bare 0x3 ⟨rfl, rfl⟩ w,
    bare 0x4 ⟨rfl, rfl⟩ w, byte 0x5 (fun _ => ⟨rfl, rfl⟩) w, byte 0x6 (fun _ => ⟨rfl, rfl⟩) w, bare 0x7 ⟨rfl, rfl⟩ w,
    bare 0x8 ⟨rfl, rfl⟩ w, bare 0x9 ⟨rfl, rfl⟩ w, bare 0xA ⟨rfl, rfl⟩ w, bare 0xB ⟨rfl, rfl⟩ w, bare 0xC ⟨rfl, rfl⟩ w,
    byte 0xD (fun _ => ⟨rfl, rfl⟩) w, bare 0xE ⟨rfl, rfl⟩ w, decodeWord_reserved⟩

/-! ### Which words are illegal -/

theorem shiftRight_twelve_eq_iff (w v : Half) : w >>> 12 = v ↔ opcOf w = v.toNat := by
  have hw := w.isLt
  have hopc : (w >>> 12).toNat = opcOf w := by
    rw [opcOf, BitVec.extractLsb'_toNat, BitVec.toNat_ushiftRight, Nat.shiftRight_eq_div_pow]
    omega
  rw [← BitVec.toNat_inj, hopc]

theorem and_0FFF_eq_zero_iff (w : Half) : w &&& 0x0FFF = 0 ↔ argOf w = 0 := by
  have hand : w &&& 0x0FFF = (0 : BitVec 4) ++ argOf w := by
    conv_lhs => rw [← extract_append_argOf w]
    exact BitVec.and_append.trans (congrArg₂ _ BitVec.and_zero BitVec.and_allOnes)
  rw [hand]
  exact BitVec.append_right_inj (t₂ := (0 : BitVec 12)) (0 : BitVec 4)

theorem and_0F00_eq_zero_iff (w : Half) : w &&& 0x0F00 = 0 ↔ argHigh w = 0 := by
  have hand : w &&& 0x0F00 = (0 : BitVec 4) ++ (argHigh w ++ (0 : Byte)) := by
    conv_lhs => rw [← extract_append_argOf w, ← argHigh_append_argByte w]
    exact BitVec.and_append.trans
      (congrArg₂ _ BitVec.and_zero (BitVec.and_append.trans (congrArg₂ _ BitVec.and_allOnes BitVec.and_zero)))
  rw [hand]
  exact (BitVec.append_right_inj (t₂ := (0 : BitVec 4) ++ (0 : Byte)) (0 : BitVec 4)).trans (BitVec.append_left_inj _)

/-- The shape `N` operations of R82 are those that are neither reserved, nor `SEL`, nor of shape `B`. -/
theorem mem_shapeN_iff {k : Nat} (hk : k < 16) :
    k ∈ [0x0, 0x3, 0x4, 0x7, 0x8, 0x9, 0xA, 0xB, 0xC, 0xE] ↔ k ≠ 0xF ∧ k ≠ 0x1 ∧ k ∉ [0x2, 0x5, 0x6, 0xD] := by
  revert k
  decide

theorem illegalWord_iff (w : Half) :
    illegalWord w = true ↔
      opcOf w = 0xF ∨
      (opcOf w ∈ [0x0, 0x3, 0x4, 0x7, 0x8, 0x9, 0xA, 0xB, 0xC, 0xE] ∧ argOf w ≠ 0) ∨
      (opcOf w ∈ [0x2, 0x5, 0x6, 0xD] ∧ argHigh w ≠ 0) := by
  rw [mem_shapeN_iff (opcOf_lt w)]
  simp [illegalWord, opcOf, argOf, argHigh, or_assoc, and_assoc]

/-- Settles O4: R104 on the fields of the word, said of its bits. -/
theorem illegalWordSetsIllAndNothingElse : Obligations.IllegalWordSetsIllAndNothingElse := by
  refine ⟨fun w => ?_, fun w s => exec_eq_effect (.illegal w) s⟩
  rw [decode, decodeWord_eq_illegal_iff, illegalWord_iff]
  simp only [ne_eq, and_0FFF_eq_zero_iff, and_0F00_eq_zero_iff]
  simp [shiftRight_twelve_eq_iff]

end Sys2Proof.Machine
end

section
/-! `LOADP` (R108): a string of host writes into the lanes of the payload buffer is that string stored. -/

namespace Sys2Proof.Machine

theorem execAll_append {is : List Instr} {s t : State} (h : execAll is s = .next t) (js : List Instr) :
    execAll (is ++ js) s = execAll js t := by
  rw [execAll_eq_foldl, Host.Outcome.next.injEq] at h
  rw [execAll_eq_foldl, List.foldl_append, h, execAll_eq_foldl]

/-- Where each lane stores its byte under its address, a string of writes stores the string. -/
theorem laneWrites_eq_store {a : Nat} {bs : List Byte}
    (h : ∀ k, a ≤ k → k < a + bs.length → ∀ v s, laneWrite (BitVec.ofNat 12 k) v s = s.store k [v]) (s : State) :
    laneWrites (BitVec.ofNat 12 a) bs s = s.store a bs := by
  induction bs generalizing a s with
  | nil => rfl
  | cons b bs ih =>
    rw [List.length_cons] at h
    have ih := ih (a := a + 1) (fun k hk hlt => h k (by omega) (by omega)) (s.store a [b])
    rw [laneWrites, h a le_rfl (by omega)]
    exact (congrArg (laneWrites · bs _) (BitVec.ofNat_add a 1).symm).trans ih

theorem laneWrite_pbuf {k : Nat} (h0 : 0x100 ≤ k) (h1 : k < 0x1FC) (v : Byte) (s : State) :
    laneWrite (BitVec.ofNat 12 k) v s = s.store k [v] := by
  have hk : (BitVec.ofNat 12 k).toNat = k := (BitVec.toNat_ofNat k 12).trans (Nat.mod_eq_of_lt (by omega))
  rw [laneWrite, laneAt_pbuf _ (by omega), hk, Lane.put, pbufBase, Nat.add_sub_cancel' h0]

theorem pseudoLoadp_eq_append (bs : List Byte) :
    pseudoLoadp bs = pseudoWrs 0x100 bs ++ pseudoWrs 0x045 [BitVec.ofNat 8 bs.length] := rfl

/-- `LOADP` stores the string from `PBUF[0]` on and its length in `PLEN`, and leaves `PTR` at the next lane. -/
theorem execAll_pseudoLoadp {bs : List Byte} (hbs : bs.length ≤ 252) (s : State) :
    execAll (pseudoLoadp bs) s =
      .next { s.store pbufBase bs with pLen := BitVec.ofNat 8 bs.length, ptr := 0x046, resp := 0 } := by
  have hload : laneWrites 0x100 bs s = s.store pbufBase bs :=
    laneWrites_eq_store (a := 0x100) (fun k h0 h1 => laneWrite_pbuf h0 (by omega)) s
  rw [pseudoLoadp_eq_append, execAll_append (execAll_pseudoWrs 0x100 bs s), execAll_pseudoWrs, hload]
  rfl

/-- Settles O19: what a stored string reads as, and what it leaves. -/
theorem loadpLoadsThePayload : Obligations.LoadpLoadsThePayload := fun bs s hbs =>
  ⟨_, execAll_pseudoLoadp hbs s, rfl, memReadBytes_writeBytes_self s.mem pbufBase bs,
    fun a ha => memRead_writeBytes_out s.mem pbufBase a bs ha⟩

end Sys2Proof.Machine
end

section
/-! Host access without a write to a lane (R110, R111, R113): each operation is its encoding decoded, and its effect is
one record update. -/

namespace Sys2Proof.Machine

theorem effect_nop (s : State) : effect .nop s = { s with resp := 0 } := rfl

theorem effect_sel (a : LaneAddr) (s : State) : effect (.sel a) s = { s with ptr := a, resp := 0 } := rfl

theorem effect_rdb (s : State) :
    effect .rdb s = { s with dout := laneRead s s.ptr, ptr := s.ptr + 1, resp := laneRead s s.ptr } := rfl

/-- The lane after the last one is lane 0 (R113). -/
theorem lastLane_add_one : (0xFFF : LaneAddr) + 1 = 0 := by decide

/-- Settles O13. -/
theorem nopChangesNothing : Obligations.NopChangesNothing := by
  refine ⟨decode_encode (i := .nop) rfl, fun s => ?_⟩
  rw [exec_eq_effect, effect_nop]

/-- Settles O14: the fields of the joined word are its parts, so every lane address decodes. -/
theorem selSetsThePointer : Obligations.SelSetsThePointer := by
  refine fun a s => ⟨decodeWord_sel a, ?_⟩
  rw [exec_eq_effect, effect_sel]

/-- Settles O17: the lane is read before `PTR` advances, and the sum of 12 bits wraps at the last lane. -/
theorem rdbReturnsTheSelectedLane : Obligations.RdbReturnsTheSelectedLane := by
  refine ⟨decode_encode (i := .rdb) rfl, fun s => ?_, fun s t hlast hexec => ?_⟩
  · rw [exec_eq_effect, effect_rdb]
  · have ht : t = effect .rdb s := (exec_next_iff .rdb s t).1 hexec
    calc t.ptr = s.ptr + 1 := by rw [ht, effect_rdb]
      _ = 0xFFF + 1 := by rw [hlast]
      _ = 0 := lastLane_add_one

end Sys2Proof.Machine
end

section
/-! The CRC generator (R121 to R126, R128): the bit-serial form, the residue, and the register over a run. -/

namespace Sys2Proof.Machine

/-! ### The bit-serial form -/

/-- Shifting a byte out of the low half puts it into bits 15:8. -/
theorem join16_zero_shiftLeft (b : Byte) : join16 0 b <<< 8 = join16 b 0 := by
  apply BitVec.eq_of_getLsbD_eq
  intro i hi
  rw [BitVec.getLsbD_shiftLeft, getLsbD_join16, getLsbD_join16]
  by_cases h8 : i < 8
  · simp [h8]
  · simp [h8, hi, show i - 8 < 8 by omega]

/-- XORs commute with the shifts: of what was XORed in before a shift, the top bit meets the register's top bit and the
other bits are XORed in after it (the reason R123 gives). -/
theorem crcShift_xor_eq_serialBit (c x : Half) : crcShift (c ^^^ x) = crcSerialBit c (x.getLsbD 15) ^^^ x <<< 1 := by
  rw [crcShift, crcSerialBit, BitVec.getLsbD_xor, BitVec.shiftLeft_xor_distrib]
  split
  · rw [BitVec.xor_assoc, BitVec.xor_assoc, BitVec.xor_comm _ crcPoly]
  · rfl

/-- The `n` bits of the byte still to come, XORed in at the top of the register before the shifts. -/
theorem crcSerial_eq_crcShifts (b : Byte) {n : Nat} (hn : n ≤ 8) (c : Half) :
    crcSerial b n c = crcShifts n (c ^^^ join16 0 b <<< (16 - n)) := by
  induction n generalizing c with
  | zero => simp [crcSerial, crcShifts]
  | succ n ih =>
    have htop : (join16 0 b <<< (16 - (n + 1))).getLsbD 15 = b.getLsbD n := by
      rw [BitVec.getLsbD_shiftLeft, getLsbD_join16, show 15 - (16 - (n + 1)) = n by omega]
      simp [show n < 8 by omega]
    have hrest : join16 0 b <<< (16 - (n + 1)) <<< 1 = join16 0 b <<< (16 - n) := by
      rw [← BitVec.shiftLeft_add, show 16 - (n + 1) + 1 = 16 - n by omega]
    rw [crcSerial, crcShifts, crcShift_xor_eq_serialBit, htop, hrest]
    exact ih (by omega) _

/-- Settles O23: with all eight bits to come, the byte stands in bits 15:8. -/
theorem bitSerialCrcEqualsByteCrc : Obligations.BitSerialCrcEqualsByteCrc := by
  intro c b
  rw [crcStepSerial, crcSerial_eq_crcShifts b le_rfl, join16_zero_shiftLeft, crcStep]

/-! ### The residue -/

/-- While no set bit reaches the top, the shifts XOR no polynomial in. -/
theorem crcShifts_eq_shiftLeft {n : Nat} {c : Half} (h : ∀ i < n, c.getLsbD (15 - i) = false) :
    crcShifts n c = c <<< n := by
  induction n generalizing c with
  | zero => simp [crcShifts]
  | succ n ih =>
    have hshift : crcShift c = c <<< 1 := if_neg (by simpa using h 0 (by omega))
    have htop : ∀ i < n, (c <<< 1).getLsbD (15 - i) = false := by
      intro i hi
      have hbit := h (i + 1) (by omega)
      rw [Nat.sub_add_eq] at hbit
      simp [hbit]
    rw [crcShifts, hshift, ih htop, ← BitVec.shiftLeft_add, Nat.add_comm]

theorem crcShifts_low_byte (b : Byte) : crcShifts 8 (join16 0 b) = join16 b 0 := by
  rw [crcShifts_eq_shiftLeft, join16_zero_shiftLeft]
  intro i hi
  rw [getLsbD_join16, if_neg (by omega)]
  exact BitVec.getLsbD_zero

/-- Two bytes are sixteen shifts of the register with both XORed in. -/
theorem crcStep_crcStep (c : Half) (hi lo : Byte) : crcStep (crcStep c hi) lo = crcShifts 16 (c ^^^ join16 hi lo) := by
  have hjoin : join16 hi lo = join16 hi 0 ^^^ join16 0 lo := by
    apply BitVec.eq_of_getLsbD_eq
    intro i _
    rw [BitVec.getLsbD_xor]
    simp only [getLsbD_join16]
    split <;> simp
  calc crcStep (crcStep c hi) lo
      = crcShifts 8 (crcShifts 8 (c ^^^ join16 hi 0) ^^^ crcShifts 8 (join16 0 lo)) := by
        rw [crcShifts_low_byte, crcStep, crcStep]
    _ = crcShifts 8 (crcShifts 8 (c ^^^ join16 hi lo)) := by rw [← crcShifts_xor, BitVec.xor_assoc, ← hjoin]
    _ = crcShifts 16 (c ^^^ join16 hi lo) := (crcShifts_add 8 8 _).symm

/-- Settles O25: the shifts lose nothing, so zero comes out exactly when the two bytes cancel the register. -/
theorem crcResidueIsZero : Obligations.CrcResidueIsZero := by
  intro d hi lo
  calc crc16 (d ++ [hi, lo]) = 0
      ↔ crcShifts 16 (crc16 d ^^^ join16 hi lo) = 0 := by
        rw [crc16_append, crcFrom_cons, crcFrom_cons, crcFrom_nil, crcStep_crcStep]
    _ ↔ crc16 d = join16 hi lo := (crcShifts_eq_zero 16 _).trans BitVec.xor_eq_zero_iff
    _ ↔ hi ++ lo = crc16 d := by rw [append2_eq_join16, eq_comm]

/-! ### The operations -/

theorem effect_crcInit (s : State) : effect .crcInit s = { s with crc := 0xFFFF, resp := 0 } := rfl

theorem effect_crcUpd (b : Byte) (s : State) :
    effect (.crcUpd b) s = { s with crc := crcStep s.crc b, resp := 0 } := rfl

theorem decode_crcUpd (b : Byte) : decode (.word ((0x50 : Byte) ++ b)) = .crcUpd b := by
  have hfields : ((0x50 : Byte) ++ b : Half) = (0x5 : BitVec 4) ++ ((0 : BitVec 4) ++ b) :=
    BitVec.append_assoc (x₁ := 0x5#4) (x₂ := 0#4)
  rw [hfields]
  exact decode_encode (i := .crcUpd b) rfl

/-- Settles O21. -/
theorem crcInitLoadsTheInitValue : Obligations.CrcInitLoadsTheInitValue := by
  refine ⟨decode_encode (i := .crcInit) rfl, fun s => ?_⟩
  rw [exec_eq_effect, effect_crcInit]

/-- Settles O22: every byte is the operand of an encoding. -/
theorem crcUpdStepsTheRegister : Obligations.CrcUpdStepsTheRegister := by
  refine fun b s => ⟨decode_crcUpd b, ?_⟩
  rw [exec_eq_effect, effect_crcUpd]

/-! ### The register over a run -/

/-- The byte that an instruction gives to the CRC generator. -/
def crcOperand : Instr → Option Byte
  | .crcUpd b => some b
  | _ => none

theorem crcOperand_eq_some {i : Instr} {b : Byte} (h : crcOperand i = some b) : i = .crcUpd b := by
  cases i <;> cases h
  rfl

/-- `CRC` runs over the bytes given to it: only `CRC.INIT` begins anew, and no other instruction writes it (R27). -/
theorem foldl_effect_crc {is : List Instr} (h : .crcInit ∉ is) (s : State) :
    (is.foldl (fun t i => effect i t) s).crc = crcFrom s.crc (is.filterMap crcOperand) := by
  induction is generalizing s with
  | nil => rfl
  | cons i is ih =>
    rw [List.foldl_cons, ih (List.not_mem_of_not_mem_cons h)]
    cases hop : crcOperand i with
    | none =>
      have hkept : (effect i s).crc = s.crc := by
        obtain hcrc | rfl | ⟨b, rfl⟩ := effect_crc i s
        · exact hcrc
        · exact absurd List.mem_cons_self h
        · cases hop
      rw [List.filterMap_cons_none hop, hkept]
    | some b =>
      rw [List.filterMap_cons_some hop, crcOperand_eq_some hop, effect_crcUpd, crcFrom_cons]

/-- Settles O24: `CRC.INIT` leaves the value that `crc16` begins with (R122). -/
theorem crcRegisterIsCrc16OfItsBytes : Obligations.CrcRegisterIsCrc16OfItsBytes := by
  intro is s h
  exact ⟨_, execAll_eq_foldl _ _, foldl_effect_crc h (effect .crcInit s)⟩

end Sys2Proof.Machine
end

section
/-! Building and parsing frames (R135 to R137, R140 to R144): the frame byte by byte, which buffers are malformed, and
the outcomes of `FRM.BUILD` and `FRM.PARSE`. -/

namespace Sys2Proof.Machine

/-! ### The encoder and the parser -/

/-- The frame of R84: six bytes of header, the payload, the CRC. -/
theorem build_eq_cons (c : Byte) (p : List Byte) :
    build c p =
      0xA5 :: 0xA5 :: 0xA5 :: 0xA5 :: BitVec.ofNat 8 (p.length + 3) :: c :: (p ++ be16 (crc16 (crcCovered c p))) := rfl

theorem build_getD_magic (c : Byte) (p : List Byte) : ∀ i < 4, (build c p).getD i 0 = 0xA5
  | 0, _ | 1, _ | 2, _ | 3, _ => rfl

theorem build_getD_after_command (c : Byte) (p : List Byte) (i : Nat) :
    (build c p).getD (6 + i) 0 = (p ++ be16 (crc16 (crcCovered c p))).getD i 0 := by
  rw [build_eq_cons, Nat.add_comm 6 i]
  rfl

theorem build_getD_payload (c : Byte) {p : List Byte} {i : Nat} (hi : i < p.length) :
    (build c p).getD (6 + i) 0 = p.getD i 0 := by
  rw [build_getD_after_command, List.getD_append _ _ _ _ hi]

/-- The CRC stands behind the payload, high byte first (R84). -/
theorem build_getD_crc (c : Byte) {p : List Byte} {n : Nat} (hn : p.length = n) :
    (build c p).getD (6 + n) 0 ++ (build c p).getD (7 + n) 0 = crc16 (crcCovered c p) := by
  have hhi : (build c p).getD (6 + n) 0 = hi16 (crc16 (crcCovered c p)) := by
    rw [build_getD_after_command, List.getD_append_right _ _ _ _ hn.le, hn, Nat.sub_self]
    rfl
  have hlo : (build c p).getD (7 + n) 0 = lo16 (crc16 (crcCovered c p)) := by
    rw [show 7 + n = 6 + (n + 1) by omega, build_getD_after_command, List.getD_append_right _ _ _ _ (by omega), hn,
      Nat.add_sub_cancel_left]
    rfl
  rw [hhi, hlo]
  exact join16_hi_lo _

/-- Settles O28. -/
theorem parseOfBuildGivesTheFrameBack : Obligations.ParseOfBuildGivesTheFrameBack :=
  fun c _ hp => parse_build c hp

/-- Settles O29: the candidate is the magic, what the CRC covers, the two received bytes and what follows. -/
theorem parseComparesTheReceivedCrc : Obligations.ParseComparesTheReceivedCrc :=
  fun c _ extra hi lo hp => parse_candidate c hp hi lo extra

/-- The four tests of R140, in the parser's order. -/
theorem parse_eq_malformed_iff (buf : List Byte) :
    parse buf = .malformed ↔
      buf.length < 8 ∨ buf.take 4 ≠ magic ∨ (buf.getD 4 0).toNat < 3 ∨ buf.length < (buf.getD 4 0).toNat + 5 := by
  unfold parse
  dsimp only
  split_ifs with hshort hmagic hsmall hlarge
  · exact iff_of_true rfl (.inl hshort)
  · exact iff_of_true rfl (.inr (.inl hmagic))
  · exact iff_of_true rfl (.inr (.inr (.inl hsmall)))
  · exact iff_of_true rfl (.inr (.inr (.inr (by omega))))
  · refine iff_of_false not_false ?_
    rintro (h | h | h | h)
    · exact hshort h
    · exact hmagic h
    · exact hsmall h
    · omega

/-- Settles O30. -/
theorem parseRejectsExactlyTheMalformed : Obligations.ParseRejectsExactlyTheMalformed :=
  parse_eq_malformed_iff

theorem length_of_parse_frame {buf : List Byte} {c : Byte} {p : List Byte} {v : Bool} (h : parse buf = .frame c p v) :
    8 ≤ buf.length := by
  by_contra hshort
  rw [(parse_eq_malformed_iff buf).2 (.inl (Nat.not_le.1 hshort))] at h
  cases h

/-! ### `FRM.BUILD` -/

/-- With a payload that fits, only `TXBUF`, `TXLEN` and `ERR` are written (R136). -/
theorem State.buildFrame_eq_with (c : Byte) {s : State} (hp : s.pLen.toNat ≤ 252) :
    s.buildFrame c = { s with mem := (s.buildFrame c).mem, txLen := (s.buildFrame c).txLen, err := .ok } := by
  rw [State.buildFrame_short c s hp]
  rfl

theorem State.buildFrame_txLen_toNat (c : Byte) {s : State} (hp : s.pLen.toNat ≤ 252) :
    (s.buildFrame c).txLen.toNat = s.pLen.toNat + 8 := by
  rw [State.buildFrame_short c s hp]
  exact Nat.mod_eq_of_lt (by omega)

theorem State.buildFrame_txbuf (c : Byte) {s : State} (hp : s.pLen.toNat ≤ 252) {i : Nat} (hi : i < s.pLen.toNat + 8) :
    (s.buildFrame c).txbuf i = (build c (s.pbufBytes s.pLen.toNat)).getD i 0 := by
  rw [State.buildFrame_short c s hp]
  exact memRead_writeBytes_in _ _ _ _ (by simpa using hi)

/-- Bytes beyond the frame keep what they held (R136). -/
theorem State.buildFrame_mem_beyond (c : Byte) {s : State} (hp : s.pLen.toNat ≤ 252) {a : Nat}
    (ha : a < 0x200 ∨ 0x200 + s.pLen.toNat + 8 ≤ a) : memRead (s.buildFrame c).mem a = memRead s.mem a := by
  rw [State.buildFrame_short c s hp]
  refine memRead_writeBytes_out _ _ _ _ ?_
  rw [build_length, pbufBytes_length]
  exact ha

theorem State.buildFrame_txbuf_payload (c : Byte) {s : State} (hp : s.pLen.toNat ≤ 252) {i : Nat}
    (hi : i < s.pLen.toNat) : (s.buildFrame c).txbuf (6 + i) = s.pbuf i := by
  rw [State.buildFrame_txbuf c hp (by omega), build_getD_payload c (by simpa using hi)]
  exact memReadBytes_getD _ _ _ _ hi

theorem crcCovered_pbufBytes (c : Byte) (s : State) (n : Nat) :
    crcCovered c (s.pbufBytes n) = BitVec.ofNat 8 (n + 3) :: c :: s.pbufBytes n := by
  rw [crcCovered, pbufBytes_length]

theorem State.buildFrame_txbuf_crc (c : Byte) {s : State} (hp : s.pLen.toNat ≤ 252) :
    (s.buildFrame c).txbuf (6 + s.pLen.toNat) ++ (s.buildFrame c).txbuf (7 + s.pLen.toNat) =
      crc16 (crcCovered c (s.pbufBytes s.pLen.toNat)) := by
  rw [State.buildFrame_txbuf c hp (by omega), State.buildFrame_txbuf c hp (by omega)]
  exact build_getD_crc c (pbufBytes_length s _)

theorem decode_frmBuild (c : Byte) : decode (.word ((0x60 : Byte) ++ c)) = .frmBuild c := by
  have hfields : ((0x60 : Byte) ++ c : Half) = (0x6 : BitVec 4) ++ ((0 : BitVec 4) ++ c) :=
    BitVec.append_assoc (x₁ := 0x6#4) (x₂ := 0#4)
  rw [hfields]
  exact decode_encode (i := .frmBuild c) rfl

theorem effect_frmBuild (c : Byte) (s : State) : effect (.frmBuild c) s = { s.buildFrame c with resp := 0 } := rfl

/-- Settles O26: a stored frame reads as the encoder's, whose bytes are known one by one. -/
theorem frmBuildWritesTheFrame : Obligations.FrmBuildWritesTheFrame := by
  refine fun c s => ⟨decode_frmBuild c, fun hlong => ?_, fun hp => ?_⟩
  · rw [exec_eq_effect, effect_frmBuild, State.buildFrame_long c s hlong]
    rfl
  · have hbyte {i : Nat} (hi : i < 6) := State.buildFrame_txbuf c hp (i := i) (by omega)
    rw [← crcCovered_pbufBytes]
    exact ⟨_, exec_eq_effect _ _, congrArg (State.respond 0) (State.buildFrame_eq_with c hp),
      State.buildFrame_txLen_toNat c hp, fun i hi => (hbyte (by omega)).trans (build_getD_magic c _ i hi),
      (hbyte (by omega)).trans (congrArg (BitVec.ofNat 8 <| · + 3) (pbufBytes_length s _)), hbyte (by omega),
      fun i hi => State.buildFrame_txbuf_payload c hp hi, State.buildFrame_txbuf_crc c hp,
      fun a ha => State.buildFrame_mem_beyond c hp ha⟩

/-! ### `FRM.PARSE` -/

theorem State.parseFrame_malformed {s : State} (h : parse (s.rxbufBytes s.rxLen.toNat) = .malformed) :
    s.parseFrame = s.rejectFrame := by
  rw [State.parseFrame, h]

theorem State.parseFrame_frame {s : State} {c : Byte} {p : List Byte} {v : Bool}
    (h : parse (s.rxbufBytes s.rxLen.toNat) = .frame c p v) : s.parseFrame = (s.deliver c p v).report .ok := by
  rw [State.parseFrame, h]

/-- The received length byte is that of `RXBUF`, since a buffer that parses reaches beyond it. -/
theorem State.length_of_parse_rxbuf {s : State} {n : Nat} {c : Byte} {p : List Byte} {v : Bool}
    (h : parse (s.rxbufBytes n) = .frame c p v) : p.length = (s.rxbuf 4).toNat - 3 := by
  have hn : 8 ≤ n := by simpa using length_of_parse_frame h
  have hbyte : (s.rxbufBytes n).getD 4 0 = s.rxbuf 4 := memReadBytes_getD _ _ _ _ (by omega)
  obtain ⟨-, -, hlen, -⟩ := parse_frame h
  rw [hlen, hbyte]

/-- Settles O31: the two outcomes of the parse, and what a stored payload reads as and leaves. -/
theorem frmParseReportsTheParse : Obligations.FrmParseReportsTheParse := by
  refine ⟨decode_encode (i := .frmParse) rfl, fun s => ⟨fun h => ?_, fun c p v h => ?_⟩⟩
  · rw [exec_eq_effect, effect, State.parseFrame_malformed h]
    rfl
  · obtain ⟨-, -, -, hp⟩ := parse_frame h
    refine ⟨_, exec_eq_effect _ _, ?_⟩
    rw [effect, State.parseFrame_frame h]
    exact ⟨rfl, Nat.mod_eq_of_lt (by omega), State.length_of_parse_rxbuf h, memReadBytes_writeBytes_self s.mem pbufBase p,
      fun a ha => memRead_writeBytes_out s.mem pbufBase a p ha⟩

end Sys2Proof.Machine
end

section
/-! The channel records (R160 to R173) and the flat mapping (R180): what each record holds byte by byte, what unpacking
reads from a record, and what comes back when one follows the other. -/

namespace Sys2Proof.Machine

/-! ### Wide registers as bytes of a record -/

theorem be16_pbuf16 (s : State) (i : Nat) : be16 (s.pbuf16 i) = [s.pbuf i, s.pbuf (i + 1)] := by
  simp only [be16, State.pbuf16, hi16_join16, lo16_join16]

theorem be32_pbuf32 (s : State) (i : Nat) :
    be32 (s.pbuf32 i) = [s.pbuf i, s.pbuf (i + 1), s.pbuf (i + 2), s.pbuf (i + 3)] := by
  simp only [be32, State.pbuf32, byte32_join32_3, byte32_join32_2, byte32_join32_1, byte32_join32_0]

theorem getD_add_of_drop_take {r r' : List Byte} {a n : Nat} (h : (r.drop a).take n = r') {k : Nat} (hk : k < n) :
    r.getD (a + k) 0 = r'.getD k 0 := by
  rw [← h, List.getD_eq_getElem?_getD, List.getD_eq_getElem?_getD, List.getElem?_take_of_lt hk, List.getElem?_drop]

/-- Byte `k` of a u32 in wire order (R12). -/
theorem be32_getD (v : Word) : ∀ k < 4, (be32 v).getD k 0 = v.extractLsb' (24 - 8 * k) 8
  | 0, _ | 1, _ | 2, _ | 3, _ => rfl

/-! ### A record put into `PBUF` -/

@[simp] theorem State.respond_pbuf (s : State) (v : Byte) (i : Nat) : (s.respond v).pbuf i = s.pbuf i := rfl

@[simp] theorem State.respond_pbuf16 (s : State) (v : Byte) (i : Nat) : (s.respond v).pbuf16 i = s.pbuf16 i := rfl

@[simp] theorem State.respond_pbuf32 (s : State) (v : Byte) (i : Nat) : (s.respond v).pbuf32 i = s.pbuf32 i := rfl

theorem State.packRecord_pbuf (s : State) {r : List Byte} (hr : r.length = recLen) {i : Nat} (hi : i < 26) :
    (s.packRecord r).pbuf i = r.getD i 0 :=
  memRead_writeBytes_in _ _ _ _ (hr.symm ▸ hi)

theorem State.packRecord_pbuf_word (s : State) {r : List Byte} (hr : r.length = recLen) {a : Nat} {v : Word}
    (h : (r.drop a).take 4 = be32 v) (ha : a + 4 ≤ 26) :
    ∀ k < 4, (s.packRecord r).pbuf (a + k) = v.extractLsb' (24 - 8 * k) 8 := fun k hk => by
  rw [s.packRecord_pbuf hr (by omega), getD_add_of_drop_take h hk, be32_getD v k hk]

theorem State.packRecord_pbuf16 (s : State) {r : List Byte} (hr : r.length = recLen) {v : Half}
    (h : r.take 2 = be16 v) : (s.packRecord r).pbuf16 0 = v := by
  have hbyte {k : Nat} (hk : k < 2) : (s.packRecord r).pbuf (0 + k) = (be16 v).getD k 0 := by
    rw [s.packRecord_pbuf hr (by omega), getD_add_of_drop_take (a := 0) h hk]
  have hhi : (s.packRecord r).pbuf 0 = hi16 v := hbyte (k := 0) (by decide)
  have hlo : (s.packRecord r).pbuf (0 + 1) = lo16 v := hbyte (by decide)
  rw [State.pbuf16, hhi, hlo, join16_hi_lo]

theorem State.packRecord_pbuf32 (s : State) {r : List Byte} (hr : r.length = recLen) {a : Nat} {v : Word}
    (h : (r.drop a).take 4 = be32 v) (ha : a + 4 ≤ 26) : (s.packRecord r).pbuf32 a = v := by
  have hbyte := s.packRecord_pbuf_word hr h ha
  have h3 : (s.packRecord r).pbuf a = byte32 v 3 := hbyte 0 (by decide)
  have h2 : (s.packRecord r).pbuf (a + 1) = byte32 v 2 := hbyte 1 (by decide)
  have h1 : (s.packRecord r).pbuf (a + 2) = byte32 v 1 := hbyte 2 (by decide)
  have h0 : (s.packRecord r).pbuf (a + 3) = byte32 v 0 := hbyte 3 (by decide)
  rw [State.pbuf32, h3, h2, h1, h0, join32_byte32]

/-- Bytes beyond the record keep what they held (R160, R170). -/
theorem State.packRecord_mem_beyond (s : State) {r : List Byte} (hr : r.length = recLen) {a : Nat}
    (ha : a < 0x100 ∨ 0x11A ≤ a) : memRead (s.packRecord r).mem a = memRead s.mem a :=
  memRead_writeBytes_out _ _ _ _ (by rw [hr]; exact ha)

theorem effect_chPack (s : State) : effect .chPack s = (s.packRecord s.basicRecord).respond 0 := rfl

theorem effect_dmrPack (s : State) : effect .dmrPack s = (s.packRecord s.dmrRecord).respond 0 := rfl

/-! ### The name field -/

/-- Zeros behind a string read as what lies behind its end. -/
theorem getD_append_zeros (l : List Byte) (n i : Nat) : (l ++ List.replicate n 0).getD i 0 = l.getD i 0 := by
  by_cases h : i < l.length
  · exact List.getD_append _ _ _ _ h
  · rw [List.getD_append_right _ _ _ _ (by omega), List.getD_eq_default l 0 (by omega)]
    simp [List.getD_eq_getElem?_getD]

theorem State.nameBytes_getD (s : State) (i : Nat) :
    s.nameBytes.getD i 0 = if i < s.nameChars then wireChar s.params.subst (s.namech i) else 0 := by
  have hlen : ((memReadBytes s.mem namechBase s.nameChars).map (wireChar s.params.subst)).length = s.nameChars := by
    rw [List.length_map, memReadBytes_length]
  rw [State.nameBytes, getD_append_zeros]
  split
  · rw [List.getD_eq_getElem _ _ (by omega), List.getElem_map, memReadBytes_getElem]
    rfl
  · exact List.getD_eq_default _ _ (by omega)

/-- The name field stands behind the fourteen bytes of fixed-width registers (R87). -/
theorem State.basicRecord_getD_name (s : State) (i : Nat) : s.basicRecord.getD (14 + i) 0 = s.nameBytes.getD i 0 := by
  rw [Nat.add_comm]
  rfl

theorem State.packBasic_pbuf_name (s : State) {i : Nat} (hi : i < 12) :
    (s.packRecord s.basicRecord).pbuf (14 + i) =
      if i < s.nameChars then wireChar s.params.subst (s.namech i) else 0 := by
  rw [s.packRecord_pbuf s.basicRecord_length (by omega), s.basicRecord_getD_name, s.nameBytes_getD]

/-- Settles O32: the record is known byte by byte. -/
theorem chPackWritesTheBasicRecord : Obligations.ChPackWritesTheBasicRecord := by
  refine ⟨decode_encode (i := .chPack) rfl, fun s => ⟨_, exec_eq_effect _ _, ?_⟩⟩
  have hlen := s.basicRecord_length
  have hbyte {i : Nat} (hi : i < 26) := s.packRecord_pbuf hlen hi
  simp only [effect_chPack, State.respond_pbuf, State.respond_mem]
  exact ⟨rfl, hbyte (by decide), hbyte (by decide), hbyte (by decide), hbyte (by decide),
    s.packRecord_pbuf_word hlen rfl (by decide), s.packRecord_pbuf_word hlen rfl (by decide), hbyte (by decide),
    hbyte (by decide), fun i hi => s.packBasic_pbuf_name hi, fun a ha => s.packRecord_mem_beyond hlen ha⟩

/-- Settles O34: the record is known byte by byte. -/
theorem dmrPackWritesTheDmrRecord : Obligations.DmrPackWritesTheDmrRecord := by
  refine ⟨decode_encode (i := .dmrPack) rfl, fun s => ⟨_, exec_eq_effect _ _, ?_⟩⟩
  have hlen := s.dmrRecord_length
  have hbyte {i : Nat} (hi : i < 26) := s.packRecord_pbuf hlen hi
  simp only [effect_dmrPack, State.respond_pbuf, State.respond_mem]
  refine ⟨rfl, hbyte (by decide), hbyte (by decide), hbyte (by decide), hbyte (by decide), hbyte (by decide),
    hbyte (by decide), s.packRecord_pbuf_word hlen rfl (by decide), s.packRecord_pbuf_word hlen rfl (by decide),
    fun i h14 h19 => ?_, hbyte (by decide), fun i h20 h25 => ?_, hbyte (by decide),
    fun a ha => s.packRecord_mem_beyond hlen ha⟩
  · rw [hbyte (by omega)]
    interval_cases i <;> rfl
  · rw [hbyte (by omega)]
    interval_cases i <;> rfl

/-! ### What unpacking a basic record reads -/

/-- The name ends at the first NUL of the field, or with the field (R165). -/
theorem State.fieldName_length_eq_iff_firstNul (s : State) {k : Nat} (hk : k ≤ 12) :
    s.fieldName.length = k ↔ (∀ i < k, s.pbuf (14 + i) ≠ 0) ∧ (k < 12 → s.pbuf (14 + k) = 0) := by
  obtain rfl | hlt := hk.eq_or_lt
  · exact s.fieldName_length_eq_iff.trans (iff_self_and.2 fun _ h => absurd h (lt_irrefl _))
  · have hfield : (memReadBytes s.mem (pbufBase + 14) nameFieldLen).length = 12 := memReadBytes_length _ _ _
    have hidx : s.fieldName.length =
        (memReadBytes s.mem (pbufBase + 14) nameFieldLen).findIdx (fun b => !(b != 0)) := by
      rw [State.fieldName, List.takeWhile_eq_take_findIdx_not, List.length_take, Nat.min_eq_left List.findIdx_le_length]
    rw [hidx, List.findIdx_eq (by omega)]
    simp only [memReadBytes_getElem, State.pbuf, Nat.add_assoc]
    simp [hlt, and_comm]

/-- The bytes before the end of the name are none of them NUL. -/
theorem State.pbuf_ne_zero_of_lt_fieldName_length (s : State) {i : Nat} (hi : i < s.fieldName.length) :
    s.pbuf (14 + i) ≠ 0 :=
  ((s.fieldName_length_eq_iff_firstNul s.fieldName_length_le).1 rfl).1 i hi

theorem State.fieldName_getD (s : State) (i : Nat) :
    s.fieldName.getD i 0 = if i < s.fieldName.length then s.pbuf (14 + i) else 0 := by
  split
  · next hi =>
    rw [List.getD_eq_getElem _ _ hi]
    simp only [State.fieldName, List.takeWhile_eq_take_findIdx_not, List.getElem_take, memReadBytes_getElem,
      Nat.add_assoc]
    rfl
  · exact List.getD_eq_default _ _ (by omega)

theorem State.unpackName_namech (s : State) {i : Nat} (hi : i < 32) :
    s.unpackName.namech i = if i < s.fieldName.length then s.pbuf (14 + i) else 0 := by
  rw [State.namech, State.unpackName_mem, memRead_writeBytes_in, getD_append_zeros, s.fieldName_getD]
  rw [List.length_append, List.length_replicate, namechSize]
  omega

/-! ### `CH.UNPACK` and `DMR.UNPACK` -/

theorem effect_chUnpack_record {s : State} (hp : s.pLen = 26) :
    effect .chUnpack s = (s.loadBasic.unpackName.report .ok).respond 0 := by
  rw [effect, s.unpackBasic_record hp]

theorem effect_dmrUnpack_record {s : State} (hp : s.pLen = 26) :
    effect .dmrUnpack s = (s.loadDmr.report .ok).respond 0 := by
  rw [effect, s.unpackDmr_record hp]

theorem effect_chUnpack_registers {s : State} (hp : s.pLen = 26) :
    (effect .chUnpack s).idx = s.pbuf16 0 ∧ (effect .chUnpack s).rxMode = s.pbuf 2 ∧
      (effect .chUnpack s).txMode = s.pbuf 3 ∧ (effect .chUnpack s).rxFreq = s.pbuf32 4 ∧
      (effect .chUnpack s).txFreq = s.pbuf32 8 ∧ (effect .chUnpack s).rxTone = s.pbuf 12 ∧
      (effect .chUnpack s).txTone = s.pbuf 13 := by
  rw [effect_chUnpack_record hp]
  exact ⟨rfl, rfl, rfl, rfl, rfl, rfl, rfl⟩

theorem effect_dmrUnpack_registers {s : State} (hp : s.pLen = 26) :
    (effect .dmrUnpack s).idx = s.pbuf16 0 ∧ (effect .dmrUnpack s).rxCc = s.pbuf 3 ∧
      (effect .dmrUnpack s).txCc = s.pbuf 4 ∧ (effect .dmrUnpack s).slot = s.pbuf 5 ∧
      (effect .dmrUnpack s).callId = s.pbuf32 6 ∧ (effect .dmrUnpack s).ownId = s.pbuf32 10 ∧
      (effect .dmrUnpack s).callFmt = s.pbuf 19 := by
  rw [effect_dmrUnpack_record hp]
  exact ⟨rfl, rfl, rfl, rfl, rfl, rfl, rfl⟩

theorem effect_chUnpack_nameLen {s : State} (hp : s.pLen = 26) :
    (effect .chUnpack s).nameLen.toNat = s.fieldName.length := by
  rw [effect_chUnpack_record hp]
  exact Nat.mod_eq_of_lt (s.fieldName_length_le.trans_lt (by decide))

theorem effect_chUnpack_namech {s : State} (hp : s.pLen = 26) {i : Nat} (hi : i < 32) :
    (effect .chUnpack s).namech i = if i < s.fieldName.length then s.pbuf (14 + i) else 0 := by
  rw [effect_chUnpack_record hp]
  exact s.loadBasic.unpackName_namech hi

/-- Settles O33: the registers are the bytes of `PBUF` joined, and the name ends at the first NUL. -/
theorem chUnpackLoadsTheBasicRecord : Obligations.ChUnpackLoadsTheBasicRecord := by
  refine ⟨decode_encode (i := .chUnpack) rfl, fun s => ⟨fun hp => ?_, fun hp => ?_⟩⟩
  · rw [exec_eq_effect, effect, s.unpackBasic_short hp]
    rfl
  · have hk : s.fieldName.length ≤ 12 := s.fieldName_length_le
    obtain ⟨hchars, hnul⟩ := (s.fieldName_length_eq_iff_firstNul hk).1 rfl
    refine ⟨_, s.fieldName.length, exec_eq_effect _ _, ?_, hk, hchars, hnul, fun i hi => ?_, fun i hi h32 => ?_,
      fun a ha => s.unpackBasic_mem_out ha⟩
    · rw [effect_chUnpack_record hp]
      simp only [append4_eq_join32]
      rfl
    · rw [effect_chUnpack_namech hp (by omega), if_pos hi]
    · rw [effect_chUnpack_namech hp h32, if_neg (Nat.not_lt.2 hi)]

/-- Settles O35: the registers are the bytes of `PBUF` joined. -/
theorem dmrUnpackLoadsTheDmrRecord : Obligations.DmrUnpackLoadsTheDmrRecord := by
  refine ⟨decode_encode (i := .dmrUnpack) rfl, fun s => ⟨fun hp => ?_, fun hp => ?_⟩⟩
  · rw [exec_eq_effect, effect, s.unpackDmr_short hp]
    rfl
  · rw [exec_eq_effect, effect_dmrUnpack_record hp]
    simp only [append4_eq_join32]
    rfl

/-! ### The basic record there and back -/

theorem execAll_pair (i j : Instr) (s : State) : execAll [i, j] s = .next (effect j (effect i s)) :=
  execAll_eq_foldl [i, j] s

/-- With `SUBST` an ASCII character, exactly the ASCII characters go to the wire unchanged (R161). -/
theorem wireChar_eq_self_iff {subst : Byte} (hsubst : subst.toNat < 0x80) (ch : Byte) :
    wireChar subst ch = ch ↔ ch.toNat < 0x80 := by
  unfold wireChar
  split
  · next h => exact iff_of_true rfl h
  · next h => exact iff_of_false (fun he => h (he ▸ hsubst)) h

theorem effect_chPack_pbuf_name (s : State) {i : Nat} (hi : i < 12) :
    (effect .chPack s).pbuf (14 + i) = if i < s.nameChars then wireChar s.params.subst (s.namech i) else 0 := by
  rw [effect_chPack, State.respond_pbuf, s.packBasic_pbuf_name hi]

/-- A packed name has a NUL behind its last character. -/
theorem effect_chPack_fieldName_length_le (s : State) : (effect .chPack s).fieldName.length ≤ s.nameChars := by
  have hchars : s.nameChars ≤ 11 := s.nameChars_le
  have hend := effect_chPack_pbuf_name s (i := s.nameChars) (by omega)
  rw [if_neg (lt_irrefl _)] at hend
  by_contra hlong
  exact State.pbuf_ne_zero_of_lt_fieldName_length _ (Nat.not_le.1 hlong) hend

/-- The fixed-width registers come back for every value (R166). -/
theorem effect_chUnpack_chPack_registers (s : State) {t : State} (ht : t = effect .chUnpack (effect .chPack s)) :
    t.idx = s.idx ∧ t.rxMode = s.rxMode ∧ t.txMode = s.txMode ∧ t.rxFreq = s.rxFreq ∧ t.txFreq = s.txFreq ∧
      t.rxTone = s.rxTone ∧ t.txTone = s.txTone := by
  obtain ⟨hidx, hrm, htm, hrf, htf, hrt, htt⟩ := effect_chUnpack_registers (s := effect .chPack s) rfl
  have hlen := s.basicRecord_length
  have hbyte {i : Nat} (hi : i < 26) := s.packRecord_pbuf hlen hi
  rw [ht, hidx, hrm, htm, hrf, htf, hrt, htt]
  simp only [effect_chPack, State.respond_pbuf, State.respond_pbuf16, State.respond_pbuf32]
  exact ⟨s.packRecord_pbuf16 hlen rfl, hbyte (by decide), hbyte (by decide), s.packRecord_pbuf32 hlen rfl (by decide),
    s.packRecord_pbuf32 hlen rfl (by decide), hbyte (by decide), hbyte (by decide)⟩

/-- A packed name reads back as it was when it fits and is made of ASCII characters but NUL (R161). -/
theorem effect_chPack_name_iff {s : State} (hsubst : s.params.subst.toNat < 0x80) :
    ((effect .chPack s).fieldName.length = s.nameLen.toNat ∧
        ∀ i < s.nameLen.toNat, (effect .chPack s).pbuf (14 + i) = s.namech i) ↔
      s.nameLen.toNat ≤ 11 ∧ ∀ i < s.nameLen.toNat, s.namech i ≠ 0 ∧ (s.namech i).toNat < 0x80 := by
  have hpacked {i : Nat} (hi : i < 12) := effect_chPack_pbuf_name s hi
  constructor
  · rintro ⟨hlen, hsame⟩
    have hle := effect_chPack_fieldName_length_le s
    have h11 : s.nameChars ≤ 11 := s.nameChars_le
    refine ⟨by omega, fun i hi => ⟨?_, ?_⟩⟩
    · exact hsame i hi ▸ State.pbuf_ne_zero_of_lt_fieldName_length _ (hlen ▸ hi)
    · have hwire := hpacked (i := i) (by omega)
      rw [hsame i hi, if_pos (by omega)] at hwire
      exact (wireChar_eq_self_iff hsubst _).1 hwire.symm
  · rintro ⟨h11, hchars⟩
    have hn : s.nameChars = s.nameLen.toNat := by
      simp only [State.nameChars, namechSize, nameMaxChars]
      omega
    have hsame : ∀ i < s.nameLen.toNat, (effect .chPack s).pbuf (14 + i) = s.namech i := fun i hi => by
      rw [hpacked (by omega), if_pos (by omega), (wireChar_eq_self_iff hsubst _).2 (hchars i hi).2]
    have hnul : (effect .chPack s).pbuf (14 + s.nameLen.toNat) = 0 := by
      rw [hpacked (by omega), if_neg (by omega)]
    exact ⟨(State.fieldName_length_eq_iff_firstNul _ (by omega)).2
      ⟨fun i hi => hsame i hi ▸ (hchars i hi).1, fun _ => hnul⟩, hsame⟩

/-- Which name is unpacked. -/
theorem effect_chUnpack_name_iff {s : State} (hp : s.pLen = 26) (n : Byte) (f : Nat → Byte) :
    ((effect .chUnpack s).nameLen = n ∧ ∀ i < n.toNat, (effect .chUnpack s).namech i = f i) ↔
      s.fieldName.length = n.toNat ∧ ∀ i < n.toNat, s.pbuf (14 + i) = f i := by
  have hk : s.fieldName.length ≤ 12 := s.fieldName_length_le
  rw [← BitVec.toNat_inj, effect_chUnpack_nameLen hp]
  refine and_congr_right fun hlen => forall₂_congr fun i hi => ?_
  rw [effect_chUnpack_namech hp (by omega), if_pos (by omega)]

/-- Settles O36: what the record holds of each register, and what is read from it. -/
theorem basicRecordRoundTrip : Obligations.BasicRecordRoundTrip := by
  rintro s ⟨-, hsubst, -⟩
  refine ⟨_, execAll_pair _ _ s, ?_⟩
  obtain ⟨hidx, hrm, htm, hrf, htf, hrt, htt⟩ := effect_chUnpack_chPack_registers s rfl
  have hname := (effect_chUnpack_name_iff (s := effect .chPack s) rfl _ _).trans (effect_chPack_name_iff hsubst)
  refine ⟨hidx, hrm, htm, hrf, htf, hrt, htt, hname, fun i hi h32 => ?_⟩
  rw [effect_chUnpack_nameLen rfl] at hi
  rw [effect_chUnpack_namech rfl h32, if_neg (Nat.not_lt.2 hi)]

/-! ### The basic record back and there -/

theorem effect_chUnpack_basicRecord {s : State} (hp : s.pLen = 26) :
    (effect .chUnpack s).basicRecord = s.pbufBytes 14 ++ (effect .chUnpack s).nameBytes := by
  obtain ⟨hidx, hrm, htm, hrf, htf, hrt, htt⟩ := effect_chUnpack_registers hp
  rw [State.basicRecord, hidx, hrm, htm, hrf, htf, hrt, htt, be16_pbuf16, be32_pbuf32, be32_pbuf32]
  rfl

/-- The fixed-width part of the record comes back (R167). -/
theorem effect_chPack_chUnpack_pbuf {s : State} (hp : s.pLen = 26) {i : Nat} (hi : i < 14) :
    (effect .chPack (effect .chUnpack s)).pbuf i = s.pbuf i := by
  rw [effect_chPack, State.respond_pbuf, State.packRecord_pbuf _ (State.basicRecord_length _) (by omega),
    effect_chUnpack_basicRecord hp, List.getD_append _ _ _ _ (by simpa using hi)]
  exact memReadBytes_getD _ _ _ _ hi

theorem effect_chUnpack_nameChars {s : State} (hp : s.pLen = 26) :
    (effect .chUnpack s).nameChars = min s.fieldName.length 11 := by
  have hk : s.fieldName.length ≤ 12 := s.fieldName_length_le
  rw [State.nameChars, effect_chUnpack_nameLen hp]
  simp only [namechSize, nameMaxChars]
  omega

/-- The name field after both: at most 11 characters of the name, those from 0x80 up replaced (R161, R165). -/
theorem effect_chPack_chUnpack_pbuf_name {s : State} (hp : s.pLen = 26) {i : Nat} (hi : i < 12) :
    (effect .chPack (effect .chUnpack s)).pbuf (14 + i) =
      if i < min s.fieldName.length 11 then wireChar s.params.subst (s.pbuf (14 + i)) else 0 := by
  rw [effect_chPack_pbuf_name _ hi, effect_chUnpack_nameChars hp, effect_params]
  split
  · rw [effect_chUnpack_namech hp (by omega), if_pos (by omega)]
  · rfl

/-- Settles O37: a field that comes back is the name it held, cut to 11 characters, and zeros; and such a field holds
just that name, of ASCII characters, which come back. -/
theorem unpackedBasicRecordPacksBack : Obligations.UnpackedBasicRecordPacksBack := by
  rintro s ⟨-, hsubst, -⟩ hp
  refine ⟨_, execAll_pair _ _ s, fun i hi => effect_chPack_chUnpack_pbuf hp hi, ?_⟩
  have hpacked {i : Nat} (hi : i < 12) := effect_chPack_chUnpack_pbuf_name hp hi
  constructor
  · intro hsame
    refine ⟨min s.fieldName.length 11, by omega, fun i hi => ⟨?_, ?_⟩, fun i hi h12 => ?_⟩
    · exact s.pbuf_ne_zero_of_lt_fieldName_length (by omega)
    · have hwire := hpacked (i := i) (by omega)
      rw [hsame (14 + i) (by omega) (by omega), if_pos hi] at hwire
      exact (wireChar_eq_self_iff hsubst _).1 hwire.symm
    · rw [← hsame (14 + i) (by omega) (by omega), hpacked h12, if_neg (by omega)]
  · rintro ⟨k, h11, hchars, hzero⟩ i h14 h26
    obtain ⟨j, rfl⟩ := Nat.exists_eq_add_of_le h14
    have hk : s.fieldName.length = k :=
      (s.fieldName_length_eq_iff_firstNul (by omega)).2
        ⟨fun i hi => (hchars i hi).1, fun h12 => hzero k le_rfl h12⟩
    rw [hpacked (by omega), hk]
    split
    · exact (wireChar_eq_self_iff hsubst _).2 (hchars j (by omega)).2
    · exact (hzero j (by omega) (by omega)).symm

/-! ### The DMR record there and back, and back and there -/

theorem and_0F_toNat (b : Byte) : (b &&& 0x0F).toNat = b.toNat % 16 := by
  rw [BitVec.toNat_and]
  exact Nat.and_two_pow_sub_one_eq_mod _ 4

theorem and_0F_eq_self_iff (b : Byte) : b &&& 0x0F = b ↔ b.toNat ≤ 0x0F := by
  rw [← BitVec.toNat_inj, and_0F_toNat]
  omega

theorem effect_dmrUnpack_dmrPack_registers (s : State) {t : State} (ht : t = effect .dmrUnpack (effect .dmrPack s)) :
    t.idx = s.idx ∧ t.rxCc = s.rxCc &&& 0x0F ∧ t.txCc = s.txCc &&& 0x0F ∧ t.slot = s.slot ∧
      t.callId = s.callId ∧ t.ownId = s.ownId ∧ t.callFmt = s.callFmt := by
  obtain ⟨hidx, hrc, htc, hsl, hcall, hown, hfmt⟩ := effect_dmrUnpack_registers (s := effect .dmrPack s) rfl
  have hlen := s.dmrRecord_length
  have hbyte {i : Nat} (hi : i < 26) := s.packRecord_pbuf hlen hi
  rw [ht, hidx, hrc, htc, hsl, hcall, hown, hfmt]
  simp only [effect_dmrPack, State.respond_pbuf, State.respond_pbuf16, State.respond_pbuf32]
  exact ⟨s.packRecord_pbuf16 hlen rfl, hbyte (by decide), hbyte (by decide), hbyte (by decide),
    s.packRecord_pbuf32 hlen rfl (by decide), s.packRecord_pbuf32 hlen rfl (by decide), hbyte (by decide)⟩

/-- What each byte of a DMR record becomes: the pad and the reserved bytes zero, the colour codes masked, the trailer
fixed, the rest as it was (R170, R172). -/
theorem effect_dmrPack_dmrUnpack_pbuf {s : State} (hp : s.pLen = 26) {i : Nat} (hi : i < 26) :
    (effect .dmrPack (effect .dmrUnpack s)).pbuf i =
      if i = 2 ∨ (14 ≤ i ∧ i < 19) ∨ (20 ≤ i ∧ i < 25) then 0
      else if i = 3 ∨ i = 4 then s.pbuf i &&& 0x0F
      else if i = 25 then 1
      else s.pbuf i := by
  obtain ⟨hidx, hrc, htc, hsl, hcall, hown, hfmt⟩ := effect_dmrUnpack_registers hp
  rw [effect_dmrPack, State.respond_pbuf, State.packRecord_pbuf _ (State.dmrRecord_length _) hi, State.dmrRecord, hidx,
    hrc, htc, hsl, hcall, hown, hfmt, be16_pbuf16, be32_pbuf32, be32_pbuf32]
  interval_cases i <;> rfl

/-- Settles O38: what each byte becomes says which bytes come back. -/
theorem dmrRecordRoundTrip : Obligations.DmrRecordRoundTrip := by
  refine ⟨fun s => ⟨_, execAll_pair _ _ s, ?_⟩, fun s hp => ⟨_, execAll_pair _ _ s, ?_⟩⟩
  · obtain ⟨hidx, hrc, htc, hsl, hcall, hown, hfmt⟩ := effect_dmrUnpack_dmrPack_registers s rfl
    exact ⟨hidx, hsl, hcall, hown, hfmt, by rw [hrc, and_0F_toNat], by rw [htc, and_0F_toNat]⟩
  · have hbyte {i : Nat} (hi : i < 26) := effect_dmrPack_dmrUnpack_pbuf hp hi
    constructor
    · intro hsame
      have hback {i : Nat} (hi : i < 26) := (hsame i hi).symm.trans (hbyte hi)
      have hrc : s.pbuf 3 = s.pbuf 3 &&& 0x0F := hback (by decide)
      have htc : s.pbuf 4 = s.pbuf 4 &&& 0x0F := hback (by decide)
      refine ⟨hback (by decide), fun i h14 h19 => ?_, fun i h20 h25 => ?_, hback (by decide),
        (and_0F_eq_self_iff _).1 hrc.symm, (and_0F_eq_self_iff _).1 htc.symm⟩
      · rw [hback (by omega), if_pos (by omega)]
      · rw [hback (by omega), if_pos (by omega)]
    · rintro ⟨hpad, hres, hres', htrail, hrc, htc⟩ i hi
      rw [hbyte hi]
      split_ifs with hz hc ht
      · obtain rfl | ⟨h14, h19⟩ | ⟨h20, h25⟩ := hz
        · exact hpad.symm
        · exact (hres i h14 h19).symm
        · exact (hres' i h20 h25).symm
      · obtain rfl | rfl := hc
        · exact (and_0F_eq_self_iff _).2 hrc
        · exact (and_0F_eq_self_iff _).2 htc
      · exact ht ▸ htrail.symm
      · rfl

/-! ### The flat mapping -/

/-- Settles O20: each key's lane is computed, and the name is read from the lanes of `NAMECH`. -/
theorem flatKeysNameTheirLanes : Obligations.FlatKeysNameTheirLanes := by
  refine ⟨fun s k => by cases k <;> rfl, fun s => ⟨memReadBytes_length _ _ _, fun i hi => ?_⟩⟩
  rw [laneRead_namech s i (by omega), flatName, List.getElem?_eq_getElem (by simpa [namechSize] using hi),
    memReadBytes_getElem]
  rfl

end Sys2Proof.Machine
end

section
/-! The resynchronizer, one operation at a time (R192 to R205): `RSY.START` and `RSY.TMO` as one record update each, what
an offered byte does in each state, and the arcs between the states. -/

namespace Sys2Proof.Machine

/-! ### Arming, and the deadline -/

theorem effect_rsyStart (s : State) :
    effect .rsyStart s = { s with
      rstate := .hunt, win := 0, scanCnt := 0, skip := 0, lenR := 0, bodyCnt := 0, rxLen := 0, crcOk := false, err := .ok,
      resp := 0 } := rfl

/-- Settles O39. -/
theorem rsyStartArmsAReceive : Obligations.RsyStartArmsAReceive := by
  refine ⟨decode_encode (i := .rsyStart) rfl, fun s => ?_⟩
  rw [exec_eq_effect, effect_rsyStart]

theorem exec_rsyTmo (s : State) : exec .rsyTmo s = .next s.deadline := exec_eq_effect .rsyTmo s

/-- Settles O45, by whether a receive is in progress. -/
theorem deadlineEndsAReceiveInProgress : Obligations.DeadlineEndsAReceiveInProgress := by
  refine ⟨decode_encode (i := .rsyTmo) rfl, fun s => ⟨fun h => ?_, fun h => ?_⟩⟩
  · rw [exec_rsyTmo, State.deadline_armed h]
    rfl
  · rw [exec_rsyTmo, State.deadline_unarmed h]
    rfl

/-! ### An offered byte -/

theorem exec_rsyByte (b : Byte) (s : State) : exec (.rsyByte b) s = .next (s.takeByte b) := exec_eq_effect (.rsyByte b) s

/-- Settles O40. -/
theorem byteNotAcceptedWhenNotArmed : Obligations.ByteNotAcceptedWhenNotArmed := by
  rintro b s (h | h)
  · rw [exec_rsyByte, State.takeByte_idle b h]
    rfl
  · rw [exec_rsyByte, State.takeByte_done b h]
    rfl

/-- One byte stored reads back, and every other address is as before. -/
theorem memRead_writeByte_self (m : List Host.Cell) (a : Nat) (b : Byte) : memRead (memWriteBytes m a [b]) a = b :=
  memRead_writeBytes_in m a 0 [b] Nat.one_pos

theorem memRead_writeByte_other (m : List Host.Cell) {a c : Nat} (b : Byte) (h : c ≠ a) :
    memRead (memWriteBytes m a [b]) c = memRead m c :=
  memRead_writeBytes_out m a c [b] (by rw [List.length_singleton]; omega)

/-- Every byte of the magic is 0xA5. -/
theorem magic_getD : ∀ i < 4, magic.getD i 0 = 0xA5 := by decide

/-- Settles O41: the three outcomes of a slid byte, and what the stored magic reads as. -/
theorem huntByteMatchesCountsOrGoesOn : Obligations.HuntByteMatchesCountsOrGoesOn := by
  intro b s hs
  rw [exec_rsyByte, State.takeByte_hunt b hs]
  refine ⟨fun hwin => ⟨_, rfl, ?_⟩, fun hwin hcnt => ?_, fun hwin hcnt => ?_⟩
  · rw [State.huntByte_match hwin]
    refine ⟨?_, fun i hi => ?_, fun a ha => memRead_writeBytes_out _ _ _ _ ha⟩
    · rw [← hwin]
      rfl
    · exact (memRead_writeBytes_in _ _ _ magic hi).trans (magic_getD i hi)
  · rw [State.huntByte_exhausted hwin hcnt]
    rfl
  · rw [State.huntByte_goes_on hwin hcnt]
    rfl

theorem State.lenByte_mem (s : State) (b : Byte) : (s.lenByte b).mem = memWriteBytes s.mem 0x404 [b] := by
  by_cases hb : b = 0
  · rw [hb, State.lenByte_zero]
    rfl
  · rw [State.lenByte_pos hb]
    rfl

/-- Settles O42, by whether the length is 0; in both cases the byte is all that is stored. -/
theorem lenByteIsTakenAsItComes : Obligations.LenByteIsTakenAsItComes := by
  intro b s hs
  rw [exec_rsyByte, State.takeByte_len b hs]
  refine ⟨_, rfl, fun hb => ?_, fun hb => ?_, ?_, fun a ha => ?_⟩
  · rw [State.lenByte_pos hb]
    rfl
  · rw [hb, State.lenByte_zero]
    rfl
  · rw [State.rxbuf, State.respond_mem, State.lenByte_mem]
    exact memRead_writeByte_self _ _ _
  · rw [State.respond_mem, State.lenByte_mem]
    exact memRead_writeByte_other _ _ ha

/-! ### A body byte -/

theorem State.collect_mem (s : State) (b : Byte) :
    (s.collect b).mem = memWriteBytes s.mem (0x405 + s.bodyCnt.toNat) [b] :=
  State.growRxLen_mem _

theorem State.collect_rxbuf (s : State) (b : Byte) : (s.collect b).rxbuf (5 + s.bodyCnt.toNat) = b := by
  rw [State.rxbuf, State.collect_mem, ← Nat.add_assoc]
  exact memRead_writeByte_self _ _ _

theorem State.collect_mem_other (s : State) (b : Byte) {a : Nat} (ha : a ≠ 0x405 + s.bodyCnt.toNat) :
    memRead (s.collect b).mem a = memRead s.mem a := by
  rw [State.collect_mem]
  exact memRead_writeByte_other _ _ ha

/-- Beside the byte stored and the body count, a byte collected raises `RXLEN`, and may draw a free value for it. -/
theorem State.collect_eq_with (s : State) (b : Byte) :
    s.collect b = { s with
      mem := (s.collect b).mem, bodyCnt := s.bodyCnt + 1, rxLen := (s.collect b).rxLen,
      freeCtr := (s.collect b).freeCtr } := by
  by_cases h : s.rxLen = 511
  · rw [State.collect_full b h]
  · rw [State.collect_eq b h]

theorem State.collect_rxLen {s : State} (b : Byte) (h : s.rxLen.toNat < 511) :
    (s.collect b).rxLen = s.rxLen + 1 ∧ (s.collect b).freeCtr = s.freeCtr := by
  rw [State.collect_eq b fun h511 => absurd (h511 ▸ h) (by decide)]
  exact ⟨rfl, rfl⟩

/-- Settles O43. -/
theorem bodyByteIsCollected : Obligations.BodyByteIsCollected := by
  intro b s hs hlast
  rw [exec_rsyByte, State.takeByte_body b hs, State.bodyByte_goes_on hlast]
  exact ⟨_, (s.collect b).rxLen, rfl, congrArg (State.respond 1) (s.collect_eq_with b), State.collect_rxLen b,
    s.collect_rxbuf b, fun a ha => s.collect_mem_other b ha⟩

/-! ### The completed receive -/

/-- The receive buffer lies above all that a completed receive stores. -/
theorem State.complete_rxbuf (s : State) (i : Nat) : s.complete.rxbuf i = s.rxbuf i :=
  s.complete_mem_above _ (by simp only [rxbufBase]; omega)

theorem State.complete_rxbufBytes (s : State) (n : Nat) : s.complete.rxbufBytes n = s.rxbufBytes n :=
  memReadBytes_congr _ _ _ _ fun i _ => s.complete_rxbuf i

/-- What a completed receive delivers (R203). -/
theorem State.complete_delivers {s : State} {c : Byte} {p : List Byte} {v : Bool}
    (h : parse (s.rxbufBytes s.rxLen.toNat) = .frame c p v) :
    s.complete = { s with
      mem := s.complete.mem, rstate := .done, cmdR := c, pLen := s.complete.pLen, crcOk := v,
      err := if v then .ok else .crcMismatch } ∧
    s.complete.pLen.toNat = p.length ∧ s.complete.pbufBytes p.length = p ∧
    ∀ a : Nat, a < 0x100 ∨ 0x100 + p.length ≤ a → memRead s.complete.mem a = memRead s.mem a := by
  obtain ⟨-, -, -, hp⟩ := parse_frame h
  rw [State.complete_frame h]
  exact ⟨rfl, Nat.mod_eq_of_lt (by omega), memReadBytes_writeBytes_self _ _ _,
    fun a ha => memRead_writeBytes_out _ _ _ _ ha⟩

/-- Settles O44: the byte is collected, and the receive completes with the parse of what is then in `RXBUF`. -/
theorem lastBodyByteCompletesTheReceive : Obligations.LastBodyByteCompletesTheReceive := by
  intro b s hs hlast
  rw [exec_rsyByte, State.takeByte_body b hs, State.bodyByte_last hlast]
  have hcollect := s.collect_eq_with b
  rw [hlast] at hcollect
  have hrxbuf (n : Nat) : ((s.collect b).complete.respond 1).rxbufBytes n = (s.collect b).rxbufBytes n :=
    State.complete_rxbufBytes _ n
  refine ⟨_, (s.collect b).rxLen, rfl, fun h => ?_, ?_, fun hp => ?_, fun c p v hp => ?_⟩
  · obtain ⟨hlen, hctr⟩ := State.collect_rxLen b h
    exact ⟨hlen, (State.complete_freeCtr _).trans hctr⟩
  · exact (State.complete_rxbuf _ _).trans (s.collect_rxbuf b)
  · rw [hrxbuf] at hp
    rw [State.complete_malformed hp]
    refine ⟨?_, fun a ha => s.collect_mem_other b ha⟩
    rw [hcollect]
    rfl
  · rw [hrxbuf] at hp
    obtain ⟨heq, hlen, hpbuf, hmem⟩ := State.complete_delivers hp
    refine ⟨?_, hlen, hpbuf, fun a ha hout => (hmem a hout).trans (s.collect_mem_other b ha)⟩
    rw [heq, hcollect]
    rfl

/-! ### The arcs between the states (R192) -/

/-- The arcs of R192 that no `RSY.START` takes. -/
def RState.arc : RState → RState → Prop
  | .idle, r => r = .idle
  | .hunt, r => r = .hunt ∨ r = .len ∨ r = .done
  | .len, r => r = .len ∨ r = .body ∨ r = .done
  | .body, r => r = .body ∨ r = .done
  | .done, r => r = .done

@[simp] theorem RState.arc_refl (r : RState) : r.arc r := by
  cases r <;> simp [RState.arc]

theorem State.huntByte_arc (s : State) (b : Byte) (h : s.rstate = .hunt) : RState.arc .hunt (s.huntByte b).rstate := by
  by_cases hwin : shiftWindow s.win b = magicWindow
  · rw [State.huntByte_match hwin]
    exact .inr (.inl rfl)
  · by_cases hcnt : s.scanCnt + 1 = s.params.maxScan
    · rw [State.huntByte_exhausted hwin hcnt]
      exact .inr (.inr rfl)
    · rw [State.huntByte_goes_on hwin hcnt]
      exact .inl h

theorem State.lenByte_arc (s : State) (b : Byte) : RState.arc .len (s.lenByte b).rstate := by
  by_cases hb : b = 0
  · rw [hb, State.lenByte_zero]
    exact .inr (.inr rfl)
  · rw [State.lenByte_pos hb]
    exact .inr (.inl rfl)

theorem State.bodyByte_arc (s : State) (b : Byte) (h : s.rstate = .body) : RState.arc .body (s.bodyByte b).rstate := by
  by_cases hlast : s.bodyCnt + 1 = s.lenR
  · rw [State.bodyByte_last hlast]
    exact .inr (State.complete_rstate _)
  · rw [State.bodyByte_goes_on hlast]
    exact .inl ((s.collect_rstate b).trans h)

theorem State.takeByte_arc (s : State) (b : Byte) : s.rstate.arc (s.takeByte b).rstate := by
  cases h : s.rstate with
  | idle => rw [State.takeByte_idle b h]; exact h
  | done => rw [State.takeByte_done b h]; exact h
  | hunt => rw [State.takeByte_hunt b h]; exact s.huntByte_arc b h
  | len => rw [State.takeByte_len b h]; exact s.lenByte_arc b
  | body => rw [State.takeByte_body b h]; exact s.bodyByte_arc b h

theorem State.deadline_arc (s : State) : s.rstate.arc s.deadline.rstate := by
  obtain h | h := s.armed_or_not
  · rw [State.deadline_armed h]
    obtain h | h | h := h
    · exact h ▸ .inr (.inr rfl)
    · exact h ▸ .inr (.inr rfl)
    · exact h ▸ .inr rfl
  · rw [State.deadline_unarmed h]
    exact s.rstate.arc_refl

/-- A byte and the deadline take the arcs; every other instruction but `RSY.START` leaves `RSTATE`. -/
theorem effect_arc {i : Instr} (hi : i ≠ .rsyStart) (s : State) : s.rstate.arc (effect i s).rstate := by
  cases i
  case rsyStart => exact absurd rfl hi
  case rsyByte b => exact s.takeByte_arc b
  case rsyTmo => exact s.deadline_arc
  all_goals simp [effect]

/-- Settles O48. -/
theorem resynchronizerLeavesDoneOnlyByStart : Obligations.ResynchronizerLeavesDoneOnlyByStart := by
  refine fun i s => ⟨effect i s, exec_eq_effect i s, fun hi => ?_, fun hi => hi ▸ rfl⟩
  have harc := effect_arc hi s
  and_intros
  all_goals
    intro h
    rw [h] at harc
    exact harc

end Sys2Proof.Machine
end

section
/-! A whole receive (R195 to R203, R210): the state after `RSY.START` and a string of offered bytes, in its phases. While
no magic has passed it is `hunting`, on the first magic `found`, with the length byte and body bytes `collecting`, and on
the last body byte that state completed. -/

namespace Sys2Proof.Machine

/-! ### The sliding window -/

theorem magic_eq : magic = [0xA5, 0xA5, 0xA5, 0xA5] := rfl

theorem byte32_shiftWindow_zero (w : Word) (b : Byte) : byte32 (shiftWindow w b) 0 = b := by
  apply BitVec.eq_of_getLsbD_eq
  intro i hi
  rw [byte32, BitVec.getLsbD_extractLsb', shiftWindow, BitVec.getLsbD_append]
  simp [hi]

/-- Taking a byte moves the others up by one place. -/
theorem byte32_shiftWindow_succ (w : Word) (b : Byte) {k : Nat} (hk : k < 3) :
    byte32 (shiftWindow w b) (k + 1) = byte32 w k := by
  apply BitVec.eq_of_getLsbD_eq
  intro i hi
  have hidx : 8 * (k + 1) + i - 8 = 8 * k + i := by omega
  rw [byte32, byte32, BitVec.getLsbD_extractLsb', BitVec.getLsbD_extractLsb', shiftWindow, BitVec.getLsbD_append,
    if_neg (by omega), hidx, BitVec.getLsbD_extractLsb']
  simp [show 8 * k + i < 24 by omega]

/-- The window holds the last four bytes taken, the newest lowest (R37). -/
theorem byte32_window (bs : List Byte) : ∀ k < 4, byte32 (bs.foldl shiftWindow 0) k = bs.reverse.getD k 0 := by
  induction bs using List.reverseRecOn with
  | nil => decide
  | append_singleton bs b ih =>
    intro k hk
    rw [List.foldl_append, List.reverse_concat]
    cases k with
    | zero => exact byte32_shiftWindow_zero _ b
    | succ k => exact (byte32_shiftWindow_succ _ b (by omega)).trans (ih k (by omega))

theorem eq_magicWindow_iff (w : Word) : w = magicWindow ↔ ∀ k < 4, byte32 w k = 0xA5 := by
  refine ⟨fun h => by rw [h]; decide, fun h => ?_⟩
  rw [← join32_byte32 w, h 3 (by omega), h 2 (by omega), h 1 (by omega), h 0 (by omega)]
  rfl

/-- The match of R197: the last four bytes taken are the magic. -/
theorem window_eq_magicWindow_iff (bs : List Byte) : bs.foldl shiftWindow 0 = magicWindow ↔ magic <:+ bs := by
  rw [eq_magicWindow_iff, ← List.reverse_prefix, List.prefix_iff_getElem?]
  refine forall₂_congr fun k hk => ?_
  have hbyte : magic.reverse[k] = 0xA5 := by
    revert k
    decide
  rw [byte32_window bs k hk, List.getD_eq_getElem?_getD, hbyte]
  cases bs.reverse[k]? <;> simp

/-- Noise with no magic that ends in no 0xA5 stays so under three bytes of a magic (R273). -/
theorem no_magic_before_fourth {noise : List Byte} (hlast : noise.getLast? ≠ some 0xA5) (hno : ¬ magic <:+: noise) :
    ¬ magic <:+: noise ++ [0xA5, 0xA5, 0xA5] := by
  rw [List.infix_append_iff_ne_nil]
  rintro (h | h | ⟨l, r, hl, -, hsplit, hsuffix, -⟩)
  · exact hno h
  · exact absurd h.length_le (by decide)
  · have hmem : l.getLast hl ∈ magic := hsplit ▸ List.mem_append_left r (l.getLast_mem hl)
    have hA5 : l.getLast hl = 0xA5 := by simpa [magic] using hmem
    rw [hsuffix.getLast hl] at hA5
    exact hlast (hA5 ▸ List.getLast?_eq_some_getLast _)

/-! ### The states of a receive -/

/-- The state after `RSY.START` and these bytes. -/
def State.receive (bs : List Byte) (s : State) : State := bs.foldl (fun t b => t.takeByte b) (s.arm.respond 0)

theorem execAll_receive (bs : List Byte) (s : State) : execAll (.rsyStart :: pseudoFeed bs) s = .next (s.receive bs) := by
  rw [execAll_eq_foldl, List.foldl_cons, pseudoFeed, List.foldl_map]
  rfl

theorem State.receive_concat (bs : List Byte) (b : Byte) (s : State) :
    s.receive (bs ++ [b]) = (s.receive bs).takeByte b := by
  rw [State.receive, List.foldl_append]
  rfl

/-- In HUNT with these bytes taken. -/
def State.hunting (bs : List Byte) (s : State) : State :=
  { s.arm with
    scanCnt := BitVec.ofNat 16 bs.length, win := bs.foldl shiftWindow 0, resp := if bs = [] then 0 else 1 }

/-- In LEN with the magic found behind `n` bytes. -/
def State.found (n : Nat) (s : State) : State :=
  { s.arm with
    mem := memWriteBytes s.mem rxbufBase magic, scanCnt := BitVec.ofNat 16 (n + 4), win := magicWindow,
    skip := BitVec.ofNat 16 n, rxLen := 4, rstate := .len, resp := 1 }

/-- In BODY with the magic found behind `n` bytes, a length byte and these body bytes taken. -/
def State.collecting (n : Nat) (L : Byte) (body : List Byte) (s : State) : State :=
  { s.found n with
    mem := memWriteBytes s.mem rxbufBase (magic ++ L :: body), lenR := L, bodyCnt := BitVec.ofNat 8 body.length,
    rxLen := BitVec.ofNat 9 (body.length + 5), rstate := .body }

/-! ### One byte in each phase -/

theorem ofNat_add_one (w n : Nat) : BitVec.ofNat w n + 1 = BitVec.ofNat w (n + 1) := (BitVec.ofNat_add n 1).symm

/-- A byte slid into the window is one more byte taken. -/
theorem State.hunting_slide (bs : List Byte) (b : Byte) (s : State) :
    ((s.hunting bs).slide b).respond 1 = s.hunting (bs ++ [b]) := by
  simp [State.hunting, State.slide, State.respond, BitVec.ofNat_add]

theorem State.hunting_goes_on {bs : List Byte} {b : Byte} {s : State} (hno : ¬ magic <:+ bs ++ [b])
    (hfit : bs.length + 1 < s.params.maxScan.toNat) : (s.hunting bs).takeByte b = s.hunting (bs ++ [b]) := by
  have hslide := s.hunting_slide bs b
  have hwin : (s.hunting (bs ++ [b])).win ≠ magicWindow := mt (window_eq_magicWindow_iff _).1 hno
  have hbelow : (s.hunting bs).scanCnt + 1 ≠ s.params.maxScan := by
    intro h
    have hn := congrArg BitVec.toNat ((ofNat_add_one 16 bs.length).symm.trans h)
    rw [BitVec.toNat_ofNat] at hn
    have := s.params.maxScan.isLt
    omega
  rw [State.takeByte_hunt b rfl, State.huntByte_goes_on ((congrArg State.win hslide).trans_ne hwin) hbelow, hslide]

theorem State.hunting_match {bs : List Byte} {b : Byte} {n : Nat} {s : State} (hmagic : magic <:+ bs ++ [b])
    (hn : (bs ++ [b]).length = n + 4) : (s.hunting bs).takeByte b = s.found n := by
  have hslide := s.hunting_slide bs b
  have hwin : (s.hunting (bs ++ [b])).win = magicWindow := (window_eq_magicWindow_iff _).2 hmagic
  have hskip : BitVec.ofNat 16 (n + 4) - 4 = BitVec.ofNat 16 n := by
    rw [BitVec.ofNat_add]
    exact BitVec.add_sub_cancel _ _
  calc (s.hunting bs).takeByte b
      = ((s.hunting bs).huntByte b).respond 1 := State.takeByte_hunt b rfl
    _ = ((s.hunting bs).slide b).matchFound.respond 1 := by
      rw [State.huntByte_match ((congrArg State.win hslide).trans hwin)]
    _ = (s.hunting (bs ++ [b])).matchFound := congrArg State.matchFound hslide
    _ = s.found n := by
      rw [State.matchFound, hwin]
      simpa [State.hunting, State.found, hn] using hskip

theorem State.found_takeLen (n : Nat) (L : Byte) (s : State) :
    ((s.found n).takeLen L).enterBody = s.collecting n L [] := rfl

/-- Completing does not look at `RSTATE`. -/
theorem State.complete_enterBody (s : State) : s.enterBody.complete = s.complete := rfl

theorem memWriteBytes_append (m : List Host.Cell) (a : Nat) (xs ys : List Byte) :
    memWriteBytes m a (xs ++ ys) = memWriteBytes (memWriteBytes m a xs) (a + xs.length) ys := by
  induction xs generalizing m a with
  | nil => rfl
  | cons x xs ih =>
    rw [List.cons_append, memWriteBytes, ih, memWriteBytes, List.length_cons, Nat.add_right_comm, Nat.add_assoc]

theorem State.collecting_collect {n : Nat} {L : Byte} {body : List Byte} (b : Byte) (s : State) (hb : body.length < 255) :
    (s.collecting n L body).collect b = s.collecting n L (body ++ [b]) := by
  have hlen : (BitVec.ofNat 9 (body.length + 5)).toNat = body.length + 5 := Nat.mod_eq_of_lt (by omega)
  have hcnt : (BitVec.ofNat 8 body.length).toNat = body.length := Nat.mod_eq_of_lt (by omega)
  have hroom : (s.collecting n L body).rxLen ≠ 511 := by
    intro h
    have hfull : body.length + 5 = 511 := hlen.symm.trans (congrArg BitVec.toNat h)
    omega
  have hmem : memWriteBytes (memWriteBytes s.mem rxbufBase (magic ++ L :: body)) (rxbufBase + 5 + body.length) [b] =
      memWriteBytes s.mem rxbufBase (magic ++ L :: (body ++ [b])) := by
    rw [← List.cons_append, ← List.append_assoc, memWriteBytes_append _ _ (magic ++ L :: body), List.length_append,
      List.length_cons]
    have hmagic : magic.length = 4 := rfl
    congr 1
    omega
  rw [State.collect_eq b hroom]
  simp only [State.collecting, State.found, hcnt, hmem, ofNat_add_one, List.length_append, List.length_singleton,
    Nat.add_right_comm body.length 1 5]

theorem State.found_takeByte_zero (n : Nat) (s : State) :
    (s.found n).takeByte 0 = (s.collecting n 0 []).complete.respond 1 := by
  rw [State.takeByte_len 0 rfl, ← State.found_takeLen, State.complete_enterBody]
  rfl

theorem State.found_takeByte {L : Byte} (hL : L ≠ 0) (n : Nat) (s : State) :
    (s.found n).takeByte L = s.collecting n L [] := by
  rw [State.takeByte_len L rfl, State.lenByte_pos hL, State.found_takeLen]
  rfl

theorem State.collecting_goes_on {L : Byte} {body : List Byte} (h : body.length + 1 < L.toNat) (n : Nat) (b : Byte)
    (s : State) : (s.collecting n L body).takeByte b = s.collecting n L (body ++ [b]) := by
  have hlast : (s.collecting n L body).bodyCnt + 1 ≠ L := by
    intro hL
    have hn := congrArg BitVec.toNat ((ofNat_add_one 8 body.length).symm.trans hL)
    rw [BitVec.toNat_ofNat] at hn
    omega
  rw [State.takeByte_body b rfl, State.bodyByte_goes_on hlast, State.collecting_collect b s (by omega)]
  rfl

theorem State.collecting_last {L : Byte} {body : List Byte} (h : body.length + 1 = L.toNat) (n : Nat) (b : Byte)
    (s : State) : (s.collecting n L body).takeByte b = (s.collecting n L (body ++ [b])).complete.respond 1 := by
  have hlast : (s.collecting n L body).bodyCnt + 1 = L := by
    refine (ofNat_add_one 8 body.length).trans ?_
    rw [h, BitVec.ofNat_toNat, BitVec.setWidth_eq]
  rw [State.takeByte_body b rfl, State.bodyByte_last hlast, State.collecting_collect b s (by omega)]

/-! ### The phases -/

/-- Bytes that hold no magic are hunted through, up to the byte bound. -/
theorem State.receive_hunting {bs : List Byte} {s : State} (hno : ¬ magic <:+: bs)
    (hfit : bs.length < s.params.maxScan.toNat) : s.receive bs = s.hunting bs := by
  induction bs using List.reverseRecOn with
  | nil => rfl
  | append_singleton bs b ih =>
    rw [List.infix_concat_iff, not_or] at hno
    rw [List.length_append, List.length_singleton] at hfit
    rw [State.receive_concat, ih hno.2 (by omega), State.hunting_goes_on hno.1 hfit]

section

variable {noise : List Byte} {s : State} (hno : ¬ magic <:+: noise ++ [0xA5, 0xA5, 0xA5])
  (hfit : noise.length + 4 ≤ s.params.maxScan.toNat)

include hno hfit

/-- The magic is found on its last byte, the count reaching the bound or not. -/
theorem State.receive_found : s.receive (noise ++ magic) = s.found noise.length := by
  have hmagic : noise ++ magic = (noise ++ [0xA5, 0xA5, 0xA5]) ++ [0xA5] := by simp [magic]
  rw [hmagic, State.receive_concat, State.receive_hunting hno (List.length_append ▸ hfit)]
  exact State.hunting_match (hmagic ▸ List.suffix_append _ _) (by simp)

theorem State.receive_collecting {L : Byte} {body : List Byte} (h : body.length < L.toNat) :
    s.receive (noise ++ magic ++ L :: body) = s.collecting noise.length L body := by
  induction body using List.reverseRecOn with
  | nil =>
    have hL : L ≠ 0 := by
      rintro rfl
      exact absurd h (by decide)
    rw [State.receive_concat, State.receive_found hno hfit, State.found_takeByte hL]
  | append_singleton body b ih =>
    rw [List.length_append, List.length_singleton] at h
    rw [← List.cons_append, ← List.append_assoc, State.receive_concat, ih (by omega), State.collecting_goes_on h]

/-- A whole receive ends with the collected candidate completed (R203). -/
theorem State.receive_completes {L : Byte} {body : List Byte} (h : body.length = L.toNat) :
    s.receive (noise ++ magic ++ L :: body) = (s.collecting noise.length L body).complete.respond 1 := by
  obtain rfl | ⟨body, b, rfl⟩ := body.eq_nil_or_concat'
  · obtain rfl : L = 0 := BitVec.eq_of_toNat_eq h.symm
    rw [State.receive_concat, State.receive_found hno hfit, State.found_takeByte_zero]
  · rw [List.length_append, List.length_singleton] at h
    rw [← List.cons_append, ← List.append_assoc, State.receive_concat, State.receive_collecting hno hfit (by omega),
      State.collecting_last h]

end

/-! ### The candidate collected -/

theorem State.collecting_rxLen (n : Nat) {L : Byte} {body : List Byte} (h : body.length = L.toNat) (s : State) :
    (s.collecting n L body).rxLen.toNat = L.toNat + 5 := by
  have := L.isLt
  rw [← h]
  exact Nat.mod_eq_of_lt (by omega)

theorem State.collecting_bodyCnt (n : Nat) {L : Byte} {body : List Byte} (h : body.length = L.toNat) (s : State) :
    (s.collecting n L body).bodyCnt = L := by
  rw [State.collecting, h, BitVec.ofNat_toNat, BitVec.setWidth_eq]

theorem State.collecting_rxbufBytes (n : Nat) {L : Byte} {body : List Byte} (h : body.length = L.toNat) (s : State) :
    (s.collecting n L body).rxbufBytes (L.toNat + 5) = magic ++ L :: body := by
  rw [← h]
  exact memReadBytes_writeBytes_self s.mem rxbufBase (magic ++ L :: body)

theorem State.collecting_parse (n : Nat) {L : Byte} {body : List Byte} (h : body.length = L.toNat) (s : State) :
    parse ((s.collecting n L body).rxbufBytes (s.collecting n L body).rxLen.toNat) = parse (magic ++ L :: body) := by
  rw [State.collecting_rxLen n h, State.collecting_rxbufBytes n h]

/-- What a whole receive leaves, whatever the parse says: the candidate and the registers that count. -/
theorem State.complete_collecting (n : Nat) {L : Byte} {body : List Byte} (h : body.length = L.toNat) (s : State)
    {t : State} (ht : t = (s.collecting n L body).complete.respond 1) :
    t.rstate = .done ∧ t.rxLen.toNat = L.toNat + 5 ∧ t.lenR = L ∧ t.bodyCnt = L ∧ t.skip = BitVec.ofNat 16 n ∧
      t.rxbufBytes (L.toNat + 5) = magic ++ L :: body := by
  subst ht
  refine ⟨State.complete_rstate _, ?_, State.complete_lenR _, ?_, State.complete_skip _, ?_⟩
  · exact (congrArg BitVec.toNat (State.complete_rxLen _)).trans (s.collecting_rxLen n h)
  · exact (State.complete_bodyCnt _).trans (s.collecting_bodyCnt n h)
  · exact (State.complete_rxbufBytes _ _).trans (s.collecting_rxbufBytes n h)

/-- A candidate of a whole receive is malformed exactly when its length byte is too small (R204). -/
theorem parse_received_eq_malformed_iff {L : Byte} {body : List Byte} (h : body.length = L.toNat) :
    parse (magic ++ L :: body) = .malformed ↔ L.toNat < 3 := by
  have hbyte : (magic ++ L :: body).getD 4 0 = L := rfl
  have hlen : (magic ++ L :: body).length = L.toNat + 5 := by
    rw [← h]
    rfl
  rw [parse_eq_malformed_iff, hbyte, hlen]
  constructor
  · rintro (h | h | h | h)
    · omega
    · exact absurd rfl h
    · exact h
    · omega
  · exact fun h => .inr (.inr (.inl h))

/-- The built frame as a candidate: its length byte counts the bytes that follow it (R84). -/
theorem build_eq_candidate (c : Byte) {p : List Byte} (hp : p.length ≤ 252) :
    ∃ (L : Byte) (body : List Byte), build c p = magic ++ L :: body ∧ L.toNat = p.length + 3 ∧
      body.length = L.toNat := by
  have hL : (BitVec.ofNat 8 (p.length + 3)).toNat = p.length + 3 := Nat.mod_eq_of_lt (by omega)
  refine ⟨_, _, build_eq_cons c p, hL, ?_⟩
  rw [hL, List.length_cons, List.length_append]
  rfl

/-- Settles O46: the noise is empty, and the result is read from the parse of the candidate. -/
theorem receiveEndsWithTheParseOfTheCandidate : Obligations.ReceiveEndsWithTheParseOfTheCandidate := by
  intro s L body hmax hbody
  rw [← magic_eq]
  have hreceive : s.receive (magic ++ L :: body) = (s.collecting 0 L body).complete.respond 1 :=
    State.receive_completes (noise := []) (by decide) (by simpa using hmax) hbody
  obtain ⟨hdone, hrx, hlenR, hcnt, hskip, hbytes⟩ := State.complete_collecting 0 hbody s hreceive
  have hparse := s.collecting_parse 0 hbody
  have hshort := parse_received_eq_malformed_iff hbody
  refine ⟨_, execAll_receive _ s, hdone, hrx, hlenR, hcnt, hskip, hbytes, ?_⟩
  cases hp : parse (magic ++ L :: body) with
  | malformed =>
    rw [hreceive, State.complete_malformed (hparse.trans hp)]
    refine ⟨iff_of_true rfl (hshort.1 hp), fun _ => ⟨rfl, rfl, rfl, fun i hi => ?_⟩, fun c p v h => ?_⟩
    · exact memRead_writeBytes_out _ _ _ _ (.inl (by simp only [pbufBase, rxbufBase]; omega))
    · cases h
  | frame c p v =>
    have hlong : ¬ L.toNat < 3 := fun h => by cases hp.symm.trans (hshort.2 h)
    obtain ⟨heq, hlen, hpbuf, -⟩ := State.complete_delivers (hparse.trans hp)
    have herr : (s.collecting 0 L body).complete.err = if v then .ok else .crcMismatch := congrArg State.err heq
    rw [hreceive]
    refine ⟨iff_of_false ?_ hlong, fun h => absurd h hlong, ?_⟩
    · rw [State.respond_err, herr]
      cases v <;> decide
    · rintro c p v ⟨rfl⟩
      exact ⟨congrArg State.cmdR heq, hlen, hpbuf, congrArg State.crcOk heq, herr⟩

/-- Settles O47: the candidate is the built frame, which parses (R143). -/
theorem receiveFindsTheFrameBehindNoise : Obligations.ReceiveFindsTheFrameBehindNoise := by
  intro s noise c p hp hfit hlast hno
  obtain ⟨L, body, hbuild, hL, hbody⟩ := build_eq_candidate c hp
  have hreceive : s.receive (noise ++ build c p) = (s.collecting noise.length L body).complete.respond 1 := by
    rw [hbuild, ← List.append_assoc]
    exact State.receive_completes (no_magic_before_fourth hlast hno) hfit hbody
  obtain ⟨hdone, hrx, hlenR, hcnt, hskip, hbytes⟩ := State.complete_collecting noise.length hbody s hreceive
  have hparse : parse _ = .frame c p true :=
    (s.collecting_parse noise.length hbody).trans (hbuild ▸ parse_build c hp)
  obtain ⟨heq, hlen, hpbuf, -⟩ := State.complete_delivers hparse
  have hmax := s.params.maxScan.isLt
  have hscan : (s.receive (noise ++ build c p)).scanCnt = BitVec.ofNat 16 (noise.length + 4) := by
    rw [hreceive]
    exact State.complete_scanCnt _
  rw [hL] at hrx hbytes
  refine ⟨_, execAll_receive _ s, hdone, ?_, ?_, ?_, ?_, hlenR ▸ hL, hcnt.trans hlenR.symm, hrx,
    hbytes.trans hbuild.symm, ?_⟩
  · rw [hreceive]
    exact congrArg State.err heq
  · rw [hreceive]
    exact congrArg State.crcOk heq
  · rw [hskip]
    exact Nat.mod_eq_of_lt (by omega)
  · rw [hscan]
    exact Nat.mod_eq_of_lt (by omega)
  · rw [hreceive]
    exact ⟨congrArg State.cmdR heq, hlen, hpbuf⟩

end Sys2Proof.Machine
end

section
/-! The wire commands (R220 to R231): each of the eleven named codes builds its frame, which parses back to the code. -/

namespace Sys2Proof.Machine

/-- The eleven named wire commands with their codes (R220 to R230). -/
def namedWireCommands : List (Instr × Byte) :=
  [(.cmd07, 0x07), (.cmd0A, 0x0A), (.cmd0B, 0x0B), (.cmd27, 0x27), (.cmd28, 0x28), (.cmd29, 0x29), (.cmd39, 0x39),
    (.cmd40, 0x40), (.cmd41, 0x41), (.cmd43, 0x43), (.cmd44, 0x44)]

theorem builtCommand_of_named : ∀ x ∈ namedWireCommands, builtCommand x.1 = some x.2 := by decide

theorem exec_of_builtCommand {i : Instr} {c : Byte} (h : builtCommand i = some c) (s : State) :
    exec i s = .next ((s.buildFrame c).respond 0) := by
  rw [exec_eq_effect, effect_of_builtCommand h]

/-- `TXBUF` holds the encoder's frame (R136). -/
theorem State.buildFrame_txbufBytes (c : Byte) {s : State} (hp : s.pLen.toNat ≤ 252) :
    (s.buildFrame c).txbufBytes (s.pLen.toNat + 8) = build c (s.pbufBytes s.pLen.toNat) := by
  have hlen : (build c (s.pbufBytes s.pLen.toNat)).length = s.pLen.toNat + 8 := by
    rw [build_length, pbufBytes_length]
  rw [State.buildFrame_short c s hp, ← hlen]
  exact memReadBytes_writeBytes_self s.mem txbufBase _

theorem State.parse_buildFrame_txbufBytes (c : Byte) {s : State} (hp : s.pLen.toNat ≤ 252) :
    parse ((s.buildFrame c).txbufBytes (s.pLen.toNat + 8)) = .frame c (s.pbufBytes s.pLen.toNat) true := by
  rw [State.buildFrame_txbufBytes c hp]
  exact parse_build c (by rwa [pbufBytes_length])

/-- Settles O27: a named command builds the frame of its code as `FRM.BUILD` does, and a built frame parses (R143). -/
theorem wireCommandsBuildTheirFrames : Obligations.WireCommandsBuildTheirFrames := by
  rintro ⟨i, c⟩ hx s
  have hexec : exec i s = .next ((s.buildFrame c).respond 0) := exec_of_builtCommand (builtCommand_of_named _ hx) s
  refine ⟨fun hp => ?_, fun hlong => ?_⟩
  · exact ⟨_, hexec, congrArg (State.respond 0) (State.buildFrame_eq_with c hp), State.buildFrame_txLen_toNat c hp,
      State.buildFrame_txbufBytes c hp, fun a ha => State.buildFrame_mem_beyond c hp ha,
      State.parse_buildFrame_txbufBytes c hp⟩
  · rw [hexec, State.buildFrame_long c s hlong]
    rfl

end Sys2Proof.Machine
end

section
/-! The invariant of the block (R115, R192 to R205, R241): every operation keeps the memory canonical and within the
buffers, leaves in `ERR` a code that the block raises, and keeps the resynchronizer's registers in agreement with
`RSTATE`. -/

namespace Sys2Proof.Machine

/-! ### The memory -/

/-- What the invariant says of the memory: canonical, and with lanes of the four byte arrays only. -/
structure Memory.Ok (m : List Host.Cell) : Prop where
  canonical : Memory.wf m = true
  inBuffers : ∀ c ∈ m, bufferLane c.1 = true

/-- A string stored within one of the four arrays (R61). -/
theorem Memory.Ok.writeBytes {m : List Host.Cell} (h : Memory.Ok m) {a : Nat} {vs : List Byte}
    (hin : (0x020 ≤ a ∧ a + vs.length ≤ 0x040) ∨ (0x100 ≤ a ∧ a + vs.length ≤ 0x1FC) ∨
      (0x200 ≤ a ∧ a + vs.length ≤ 0x304) ∨ (0x400 ≤ a ∧ a + vs.length ≤ 0x600)) :
    Memory.Ok (memWriteBytes m a vs) where
  canonical := Memory.wf_writeBytes h.canonical a vs
  inBuffers c hc := by
    obtain hc | hc := mem_of_mem_writeBytes hc
    · exact (bufferLane_iff c.1).2 (by omega)
    · exact h.inBuffers c hc

/-- A host write stores at the index its lane carries, which is within the array. -/
theorem laneWrite_memOk {s : State} (h : Memory.Ok s.mem) (a : LaneAddr) (v : Byte) :
    Memory.Ok (laneWrite a v s).mem := by
  have hrange := laneAt_inRange a
  unfold laneWrite
  cases hl : laneAt a
  case namech i | pbuf i | rxbuf i =>
    rw [hl] at hrange
    simp only [Lane.inRange, namechSize, pbufSize, rxbufSize] at hrange
    refine h.writeBytes ?_
    simp only [namechBase, pbufBase, rxbufBase, List.length_singleton]
    omega
  all_goals exact h

theorem State.buildFrame_memOk {s : State} (h : Memory.Ok s.mem) (c : Byte) : Memory.Ok (s.buildFrame c).mem := by
  by_cases hp : s.pLen.toNat ≤ 252
  · rw [State.buildFrame_short c s hp]
    refine h.writeBytes ?_
    simp only [txbufBase, build_length, pbufBytes_length]
    omega
  · rw [State.buildFrame_long c s (by omega)]
    exact h

theorem State.deliver_memOk {s : State} (h : Memory.Ok s.mem) {buf : List Byte} {c : Byte} {p : List Byte} {v : Bool}
    (hp : parse buf = .frame c p v) : Memory.Ok (s.deliver c p v).mem := by
  obtain ⟨-, -, -, hlen⟩ := parse_frame hp
  exact h.writeBytes (by simp only [pbufBase]; omega)

theorem State.parseFrame_memOk {s : State} (h : Memory.Ok s.mem) : Memory.Ok s.parseFrame.mem := by
  unfold State.parseFrame
  split
  · exact h
  · next hp => exact State.deliver_memOk h hp

theorem State.complete_memOk {s : State} (h : Memory.Ok s.mem) : Memory.Ok s.complete.mem := by
  unfold State.complete
  split
  · exact h
  · next hp => exact State.deliver_memOk h hp

theorem State.packRecord_memOk {s : State} (h : Memory.Ok s.mem) {r : List Byte} (hr : r.length = recLen) :
    Memory.Ok (s.packRecord r).mem :=
  h.writeBytes (by rw [hr]; decide)

theorem State.unpackBasic_memOk {s : State} (h : Memory.Ok s.mem) : Memory.Ok s.unpackBasic.mem := by
  have hlen := s.loadBasic.fieldName_length_le
  simp only [nameFieldLen] at hlen
  unfold State.unpackBasic
  split
  · exact h
  · refine h.writeBytes ?_
    simp only [namechBase, namechSize, List.length_append, List.length_replicate]
    omega

theorem State.huntByte_memOk {s : State} (h : Memory.Ok s.mem) (b : Byte) : Memory.Ok (s.huntByte b).mem := by
  unfold State.huntByte State.scanned
  split
  · exact h.writeBytes (by decide)
  · split <;> exact h

theorem State.lenByte_memOk {s : State} (h : Memory.Ok s.mem) (b : Byte) : Memory.Ok (s.lenByte b).mem := by
  rw [State.lenByte_mem]
  exact h.writeBytes (by rw [List.length_singleton]; decide)

/-- Whatever `BODYCNT` is, the byte collected lies in `RXBUF`. -/
theorem State.collect_memOk {s : State} (h : Memory.Ok s.mem) (b : Byte) : Memory.Ok (s.collect b).mem := by
  have hcnt := s.bodyCnt.isLt
  rw [State.collect_mem]
  exact h.writeBytes (by rw [List.length_singleton]; omega)

theorem State.bodyByte_memOk {s : State} (h : Memory.Ok s.mem) (b : Byte) : Memory.Ok (s.bodyByte b).mem := by
  unfold State.bodyByte
  split
  · exact State.complete_memOk (State.collect_memOk h b)
  · exact State.collect_memOk h b

theorem State.takeByte_memOk {s : State} (h : Memory.Ok s.mem) (b : Byte) : Memory.Ok (s.takeByte b).mem := by
  unfold State.takeByte
  split
  · exact h
  · exact h
  · exact State.huntByte_memOk h b
  · exact State.lenByte_memOk h b
  · exact State.bodyByte_memOk h b

theorem effect_memOk {s : State} (h : Memory.Ok s.mem) (i : Instr) : Memory.Ok (effect i s).mem := by
  cases hc : builtCommand i with
  | some c =>
    rw [effect_of_builtCommand hc]
    exact State.buildFrame_memOk h c
  | none =>
    exact match i, hc with
    | .wrb b, _ => laneWrite_memOk h s.ptr b
    | .frmParse, _ => State.parseFrame_memOk h
    | .chPack, _ => State.packRecord_memOk h s.basicRecord_length
    | .dmrPack, _ => State.packRecord_memOk h s.dmrRecord_length
    | .chUnpack, _ => State.unpackBasic_memOk h
    | .dmrUnpack, _ => s.unpackDmr_mem.symm ▸ h
    | .rsyByte b, _ => State.takeByte_memOk h b
    | .rsyTmo, _ => s.deadline_mem.symm ▸ h
    | .nop, _ | .sel _, _ | .rdb, _ | .crcInit, _ | .crcUpd _, _ | .rsyStart, _ | .illegal _, _ => h

/-! ### The result code -/

/-- A code that the block raises (R241). -/
abbrev ResultCode.Raised (c : ResultCode) : Prop := c ≠ .communication ∧ c ≠ .connection

theorem raised_timeout : ResultCode.timeout.Raised := by decide

theorem State.report_raised (s : State) {c : ResultCode} (hc : c.Raised) : (s.report c).err.Raised := hc

theorem State.buildFrame_raised (s : State) (c : Byte) : (s.buildFrame c).err.Raised := by
  unfold State.buildFrame
  dsimp only
  split <;> exact State.report_raised _ (by decide)

theorem State.rejectFrame_raised (s : State) : s.rejectFrame.err.Raised := State.report_raised _ (by decide)

theorem State.parseFrame_raised (s : State) : s.parseFrame.err.Raised := by
  unfold State.parseFrame
  split
  · exact s.rejectFrame_raised
  · exact State.report_raised _ (by decide)

theorem State.complete_raised (s : State) : s.complete.err.Raised := by
  unfold State.complete
  split
  · exact s.rejectFrame_raised
  · next v _ =>
    have hcode : (if v then ResultCode.ok else .crcMismatch).Raised := by
      cases v <;> decide
    exact hcode

theorem State.unpackBasic_raised (s : State) : s.unpackBasic.err.Raised := by
  unfold State.unpackBasic
  split <;> exact State.report_raised _ (by decide)

theorem State.unpackDmr_raised (s : State) : s.unpackDmr.err.Raised := by
  unfold State.unpackDmr
  split <;> exact State.report_raised _ (by decide)

theorem State.takeByte_raised {s : State} (h : s.err.Raised) (b : Byte) : (s.takeByte b).err.Raised := by
  unfold State.takeByte
  split
  · exact h
  · exact h
  · unfold State.huntByte State.scanned
    split
    · exact h
    · split
      · exact raised_timeout
      · exact h
  · unfold State.lenByte
    split
    · exact State.complete_raised _
    · exact h
  · unfold State.bodyByte
    split
    · exact State.complete_raised _
    · exact (s.collect_err b).symm ▸ h

theorem State.deadline_raised {s : State} (h : s.err.Raised) : s.deadline.err.Raised := by
  unfold State.deadline
  split
  · exact h
  · exact h
  all_goals exact raised_timeout

theorem effect_raised {s : State} (h : s.err.Raised) (i : Instr) : (effect i s).err.Raised := by
  cases hc : builtCommand i with
  | some c =>
    rw [effect_of_builtCommand hc]
    exact s.buildFrame_raised c
  | none =>
    exact match i, hc with
    | .wrb b, _ => (laneWrite_err s.ptr b s).symm ▸ h
    | .frmParse, _ => s.parseFrame_raised
    | .chUnpack, _ => s.unpackBasic_raised
    | .dmrUnpack, _ => s.unpackDmr_raised
    | .rsyByte b, _ => State.takeByte_raised h b
    | .rsyTmo, _ => State.deadline_raised h
    | .chPack, _ | .dmrPack, _ | .rsyStart, _ => ⟨ResultCode.noConfusion, ResultCode.noConfusion⟩
    | .nop, _ | .sel _, _ | .rdb, _ | .crcInit, _ | .crcUpd _, _ | .illegal _, _ => h

/-! ### The window -/

theorem shiftWindow_toNat (w : Word) (b : Byte) : (shiftWindow w b).toNat = w.toNat % 2 ^ 24 * 256 + b.toNat := by
  have hb := b.isLt
  rw [shiftWindow, BitVec.toNat_append, ← Nat.shiftLeft_add_eq_or_of_lt hb, BitVec.extractLsb'_toNat,
    Nat.shiftRight_zero, Nat.shiftLeft_eq]

/-- A window that holds no more than `n` bytes holds no more than `n + 1` after the next. -/
theorem shiftWindow_lt {w : Word} {n : Nat} (h : w.toNat < 256 ^ n) (b : Byte) :
    (shiftWindow w b).toNat < 256 ^ (n + 1) := by
  have hb := b.isLt
  have hmod : w.toNat % 2 ^ 24 ≤ w.toNat := Nat.mod_le _ _
  rw [shiftWindow_toNat, Nat.pow_succ]
  omega

/-- The magic takes four bytes. -/
theorem four_le_of_magicWindow_lt {n : Nat} (h : magicWindow.toNat < 256 ^ n) : 4 ≤ n := by
  by_contra hn
  have hpow : 256 ^ n ≤ 256 ^ 3 := Nat.pow_le_pow_right (by decide) (by omega)
  have hmagic : 256 ^ 3 ≤ magicWindow.toNat := by decide
  omega

/-! ### The resynchronizer's registers -/

theorem State.ResyncOk.of_same {s t : State} (h : s.ResyncOk) (hstate : t.rstate = s.rstate)
    (hregs : t.params = s.params ∧ t.win = s.win ∧ t.scanCnt = s.scanCnt ∧ t.skip = s.skip ∧ t.lenR = s.lenR ∧
      t.bodyCnt = s.bodyCnt) : t.ResyncOk := by
  obtain ⟨hparams, hwin, hscan, hskip, hlen, hbody⟩ := hregs
  rw [State.ResyncOk, hstate, hparams, hwin, hscan, hskip, hlen, hbody]
  exact h

theorem State.ResyncOk.respond {s : State} (h : s.ResyncOk) (v : Byte) : (s.respond v).ResyncOk :=
  h.of_same rfl ⟨rfl, rfl, rfl, rfl, rfl, rfl⟩

/-- A match needs four bytes taken, so `SKIP` does not wrap; the bound is met at the latest with this byte (R197,
R198). -/
theorem State.ResyncOk.huntByte {s : State} (h : s.ResyncOk) (hs : s.rstate = .hunt) (b : Byte) :
    (s.huntByte b).ResyncOk := by
  simp only [State.ResyncOk, hs] at h
  obtain ⟨hscan, -, hwin, hskip, hlen, hbody⟩ := h
  have hmax := s.params.maxScan.isLt
  have hnext : (s.scanCnt + 1).toNat = s.scanCnt.toNat + 1 := by bv_omega
  have hle : (s.scanCnt + 1).toNat ≤ s.params.maxScan.toNat := hnext ▸ hscan
  have hwin' : (shiftWindow s.win b).toNat < 256 ^ (s.scanCnt + 1).toNat := hnext ▸ shiftWindow_lt hwin b
  by_cases hmatch : shiftWindow s.win b = magicWindow
  · have hfour : 4 ≤ (s.scanCnt + 1).toNat := four_le_of_magicWindow_lt (hmatch ▸ hwin')
    rw [State.huntByte_match hmatch]
    exact ⟨hle, hmatch, by simp only [State.matchFound_skip, State.matchFound_scanCnt, State.slide_scanCnt]; bv_omega,
      hlen, hbody⟩
  · by_cases hend : s.scanCnt + 1 = s.params.maxScan
    · rw [State.huntByte_exhausted hmatch hend]
      exact ⟨hle, by simp [hlen, hbody], .inr ⟨hmatch, hskip, hlen⟩⟩
    · rw [State.huntByte_goes_on hmatch hend]
      simp only [State.ResyncOk, State.slide_rstate, hs]
      exact ⟨Nat.lt_of_le_of_ne hle (mt BitVec.eq_of_toNat_eq hend), hmatch, hwin', hskip, hlen, hbody⟩

/-- A completed receive has taken at most `LENR` body bytes, with the window on the magic. -/
theorem State.resyncOk_complete {s : State} (hscan : s.scanCnt.toNat ≤ s.params.maxScan.toNat)
    (hbody : s.bodyCnt.toNat ≤ s.lenR.toNat) (hwin : s.win = magicWindow)
    (hskip : s.skip.toNat + 4 = s.scanCnt.toNat) : s.complete.ResyncOk := by
  simp only [State.ResyncOk, State.complete_rstate, State.complete_scanCnt, State.complete_params,
    State.complete_bodyCnt, State.complete_lenR, State.complete_win, State.complete_skip]
  exact ⟨hscan, hbody, .inl ⟨hwin, hskip⟩⟩

theorem State.ResyncOk.lenByte {s : State} (h : s.ResyncOk) (hs : s.rstate = .len) (b : Byte) :
    (s.lenByte b).ResyncOk := by
  simp only [State.ResyncOk, hs] at h
  obtain ⟨hscan, hwin, hskip, -, -⟩ := h
  by_cases hb : b = 0
  · rw [State.lenByte, if_pos hb]
    exact State.resyncOk_complete hscan (Nat.zero_le _) hwin hskip
  · rw [State.lenByte_pos hb]
    have hpos : 0 < b.toNat := Nat.pos_of_ne_zero (mt (BitVec.eq_of_toNat_eq (y := 0)) hb)
    exact ⟨hscan, hwin, hskip, hpos⟩

/-- Fewer than `LENR` bytes were taken, so `BODYCNT` does not wrap. -/
theorem State.ResyncOk.bodyByte {s : State} (h : s.ResyncOk) (hs : s.rstate = .body) (b : Byte) :
    (s.bodyByte b).ResyncOk := by
  simp only [State.ResyncOk, hs] at h
  obtain ⟨hscan, hwin, hskip, hbody⟩ := h
  have hle : (s.bodyCnt + 1).toNat ≤ s.lenR.toNat := by bv_omega
  by_cases hlast : s.bodyCnt + 1 = s.lenR
  · rw [State.bodyByte_last hlast]
    exact State.resyncOk_complete (by simpa using hscan) (by simpa using hle) (by simpa using hwin)
      (by simpa using hskip)
  · rw [State.bodyByte_goes_on hlast]
    simp only [State.ResyncOk, State.collect_rstate, hs, State.collect_params, State.collect_scanCnt,
      State.collect_win, State.collect_skip, State.collect_bodyCnt, State.collect_lenR]
    exact ⟨hscan, hwin, hskip, Nat.lt_of_le_of_ne hle (mt BitVec.eq_of_toNat_eq hlast)⟩

theorem State.ResyncOk.takeByte {s : State} (h : s.ResyncOk) (b : Byte) : (s.takeByte b).ResyncOk := by
  cases hs : s.rstate with
  | idle => rw [State.takeByte_idle b hs]; exact h.respond 0
  | done => rw [State.takeByte_done b hs]; exact h.respond 0
  | hunt => rw [State.takeByte_hunt b hs]; exact (h.huntByte hs b).respond 1
  | len => rw [State.takeByte_len b hs]; exact (h.lenByte hs b).respond 1
  | body => rw [State.takeByte_body b hs]; exact (h.bodyByte hs b).respond 1

/-- A receive ended by the deadline: the registers stand as they were. -/
theorem State.ResyncOk.expire {s : State} (h : s.ResyncOk)
    (hs : s.rstate = .hunt ∨ s.rstate = .len ∨ s.rstate = .body) : s.expire.ResyncOk := by
  obtain hs | hs | hs := hs
  all_goals simp only [State.ResyncOk, hs] at h
  · obtain ⟨hscan, hwin, -, hskip, hlen, hbody⟩ := h
    exact ⟨hscan.le, by simp [hbody], .inr ⟨hwin, hskip, hlen⟩⟩
  · obtain ⟨hscan, hwin, hskip, -, hbody⟩ := h
    exact ⟨hscan, by simp [hbody], .inl ⟨hwin, hskip⟩⟩
  · obtain ⟨hscan, hwin, hskip, hbody⟩ := h
    exact ⟨hscan, hbody.le, .inl ⟨hwin, hskip⟩⟩

theorem State.ResyncOk.deadline {s : State} (h : s.ResyncOk) : s.deadline.ResyncOk := by
  obtain hs | hs := s.armed_or_not
  · rw [State.deadline_armed hs]
    exact (h.expire hs).respond 1
  · rw [State.deadline_unarmed hs]
    exact h.respond 0

/-- An armed receive has counted nothing, which is below `MAX_SCAN`. -/
theorem State.arm_resyncOk {s : State} (hp : s.params.Valid) : s.arm.ResyncOk :=
  have hwin : (0 : Word) ≠ magicWindow := by decide
  ⟨Nat.lt_of_lt_of_le (Nat.succ_pos 3) hp.1, hwin, Nat.one_pos, rfl, rfl, rfl⟩

/-- The three operations of the resynchronizer are the only ones that touch its registers. -/
theorem State.ResyncOk.effect {s : State} (h : s.ResyncOk) (hp : s.params.Valid) (i : Instr) :
    (effect i s).ResyncOk := by
  cases i
  case rsyStart => exact (State.arm_resyncOk hp).respond 0
  case rsyByte b => exact h.takeByte b
  case rsyTmo => exact h.deadline
  all_goals exact h.of_same (by simp [Machine.effect]) (by simp [Machine.effect])

/-! ### Steps -/

theorem State.Inv.memOk {s : State} (h : s.Inv) : Memory.Ok s.mem := ⟨h.memCanonical, h.memInBuffers⟩

theorem State.Inv.effect {s : State} (h : s.Inv) (i : Instr) : (effect i s).Inv where
  paramsValid := (effect_params i s).symm ▸ h.paramsValid
  memCanonical := (effect_memOk h.memOk i).canonical
  memInBuffers := (effect_memOk h.memOk i).inBuffers
  errRaised := effect_raised h.errRaised i
  resyncOk := h.resyncOk.effect h.paramsValid i

theorem State.Inv.with_inputs {s : State} (h : s.Inv) (rest : List Input) : ({ s with inputs := rest } : State).Inv :=
  { h with }

/-- The reset event leaves what every state out of reset is, but for the counter of free values. -/
theorem State.Inv.applyReset {s : State} (h : s.Inv) : s.applyReset.Inv :=
  { State.reset_inv s.params s.inputs h.paramsValid with }

/-- Settles O56, by the three things a step can do. -/
theorem everyStepKeepsTheInvariant : Obligations.EveryStepKeepsTheInvariant := by
  intro s t h hst
  obtain ⟨-, hstep⟩ | ⟨p, rest, -, hstep⟩ | ⟨rest, -, hstep⟩ := step_cases s
  all_goals
    rw [hstep] at hst
    cases hst
  · exact h
  · exact (h.with_inputs rest).effect (decode p)
  · exact (h.with_inputs rest).applyReset

end Sys2Proof.Machine
end

section
/-! Which operations write `ERR` (R242): those that do leave a code that does not depend on the one before. And a step
with nothing presented (R259). -/

namespace Sys2Proof.Machine

/-! ### Operations whose result does not depend on `ERR` -/

theorem State.buildFrame_report (s : State) (e : ResultCode) (c : Byte) :
    (s.report e).buildFrame c = s.buildFrame c := rfl

theorem State.parseFrame_report (s : State) (e : ResultCode) : (s.report e).parseFrame = s.parseFrame := rfl

theorem State.packRecord_report (s : State) (e : ResultCode) (r : List Byte) :
    (s.report e).packRecord r = s.packRecord r := rfl

theorem State.unpackBasic_report (s : State) (e : ResultCode) : (s.report e).unpackBasic = s.unpackBasic := rfl

theorem State.unpackDmr_report (s : State) (e : ResultCode) : (s.report e).unpackDmr = s.unpackDmr := rfl

theorem State.arm_report (s : State) (e : ResultCode) : (s.report e).arm = s.arm := rfl

theorem State.expire_report (s : State) (e : ResultCode) : (s.report e).expire = s.expire := rfl

theorem State.complete_report (s : State) (e : ResultCode) : (s.report e).complete = s.complete := rfl

theorem State.collect_report (s : State) (e : ResultCode) (b : Byte) :
    (s.report e).collect b = (s.collect b).report e := by
  by_cases h : s.rxLen = 511
  · rw [State.collect_full b h, State.collect_full (s := s.report e) b h]
    rfl
  · rw [State.collect_eq b h, State.collect_eq (s := s.report e) b h]
    rfl

/-! ### An offered byte -/

/-- From `s` the operation leaves `ERR` or enters DONE, and there its result does not depend on `ERR`. -/
def State.ReportsAtDone (s : State) (f : State → State) : Prop :=
  ((f s).rstate ≠ .done ∧ (f s).err = s.err) ∨ ((f s).rstate = .done ∧ ∀ e, f (s.report e) = f s)

theorem State.huntByte_reportsAtDone {s : State} (b : Byte) (h : s.rstate = .hunt) :
    s.ReportsAtDone (State.huntByte b) := by
  by_cases hwin : shiftWindow s.win b = magicWindow
  · refine .inl ?_
    rw [State.huntByte_match hwin]
    exact ⟨RState.noConfusion, rfl⟩
  · by_cases hcnt : s.scanCnt + 1 = s.params.maxScan
    · refine .inr ⟨?_, fun e => ?_⟩
      · rw [State.huntByte_exhausted hwin hcnt]
        rfl
      · rw [State.huntByte_exhausted hwin hcnt, State.huntByte_exhausted (s := s.report e) hwin hcnt]
        rfl
    · refine .inl ?_
      rw [State.huntByte_goes_on hwin hcnt]
      exact ⟨h.trans_ne RState.noConfusion, rfl⟩

theorem State.lenByte_reportsAtDone (s : State) (b : Byte) : s.ReportsAtDone (State.lenByte b) := by
  by_cases hb : b = 0
  · rw [hb]
    exact .inr ⟨rfl, fun e => (s.takeLen 0).complete_report e⟩
  · refine .inl ?_
    rw [State.lenByte_pos hb]
    exact ⟨RState.noConfusion, rfl⟩

theorem State.bodyByte_reportsAtDone {s : State} (b : Byte) (h : s.rstate = .body) :
    s.ReportsAtDone (State.bodyByte b) := by
  by_cases hlast : s.bodyCnt + 1 = s.lenR
  · refine .inr ⟨?_, fun e => ?_⟩
    · rw [State.bodyByte_last hlast, State.complete_rstate]
    · rw [State.bodyByte_last hlast, State.bodyByte_last (s := s.report e) hlast, State.collect_report,
        State.complete_report]
  · refine .inl ?_
    rw [State.bodyByte_goes_on hlast, State.collect_rstate, h]
    exact ⟨RState.noConfusion, s.collect_err b⟩

/-- An accepted byte does what its state's operation does, and answers 1. -/
theorem State.ReportsAtDone.takeByte {s : State} {f : State → State} {b : Byte} (h : s.ReportsAtDone f)
    (hf : ∀ t : State, t.rstate = s.rstate → t.takeByte b = (f t).respond 1) : s.ReportsAtDone (State.takeByte b) := by
  unfold State.ReportsAtDone
  rw [hf s rfl]
  exact h.imp_right fun ⟨hdone, hsame⟩ =>
    ⟨hdone, fun e => (hf (s.report e) rfl).trans (congrArg (State.respond 1) (hsame e))⟩

theorem State.takeByte_reportsAtDone {s : State} (b : Byte) (hs : s.rstate ≠ .done) :
    s.ReportsAtDone (State.takeByte b) := by
  cases h : s.rstate with
  | idle =>
    refine .inl ?_
    rw [State.takeByte_idle b h]
    exact ⟨hs, rfl⟩
  | done => exact absurd h hs
  | hunt => exact (State.huntByte_reportsAtDone b h).takeByte fun t ht => State.takeByte_hunt b (ht.trans h)
  | len => exact (s.lenByte_reportsAtDone b).takeByte fun t ht => State.takeByte_len b (ht.trans h)
  | body => exact (State.bodyByte_reportsAtDone b h).takeByte fun t ht => State.takeByte_body b (ht.trans h)

/-- A byte that does not enter DONE leaves `ERR`. -/
theorem State.takeByte_err {s : State} {b : Byte} (h : ¬ (s.rstate ≠ .done ∧ (s.takeByte b).rstate = .done)) :
    (s.takeByte b).err = s.err := by
  by_cases hs : s.rstate = .done
  · rw [State.takeByte_done b hs, State.respond_err]
  · obtain ⟨-, herr⟩ | ⟨hdone, -⟩ := State.takeByte_reportsAtDone b hs
    · exact herr
    · exact absurd ⟨hs, hdone⟩ h

/-- A byte that enters DONE does so whatever `ERR` was. -/
theorem State.takeByte_report {s : State} {b : Byte} (hs : s.rstate ≠ .done) (hdone : (s.takeByte b).rstate = .done)
    (e : ResultCode) : (s.report e).takeByte b = s.takeByte b := by
  obtain ⟨hnot, -⟩ | ⟨-, hsame⟩ := State.takeByte_reportsAtDone b hs
  · exact absurd hdone hnot
  · exact hsame e

/-! ### The deadline -/

/-- A deadline that is not accepted leaves `ERR`; one that is does the same whatever `ERR` was. -/
theorem State.deadline_err_or_report (s : State) :
    (s.deadline.resp = 0 ∧ s.deadline.err = s.err) ∨
      (s.deadline.resp = 1 ∧ ∀ e, (s.report e).deadline = s.deadline) := by
  obtain h | h := s.armed_or_not
  · refine .inr ⟨by rw [State.deadline_armed h]; rfl, fun e => ?_⟩
    rw [State.deadline_armed h, State.deadline_armed (s := s.report e) h, State.expire_report]
  · exact .inl (by rw [State.deadline_unarmed h]; exact ⟨rfl, rfl⟩)

/-- Settles O49: a byte and the deadline have lemmas of their own; every other instruction either never looks at `ERR`
or overwrites it. -/
theorem errIsWrittenOnlyByReportingOperations : Obligations.ErrIsWrittenOnlyByReportingOperations := by
  refine ⟨fun i s t ht => ?_, fun i s e hi => ?_, fun b s e t ht hs hdone => ?_, fun s e t ht hresp => ?_⟩
  · obtain rfl := (exec_next_iff i s t).1 ht
    refine ⟨?_, ?_, ?_⟩
    · rintro (rfl | ⟨a, rfl⟩ | ⟨b, rfl⟩ | rfl | rfl | ⟨b, rfl⟩ | ⟨w, rfl⟩)
      case inr.inr.inl => exact laneWrite_err s.ptr b s
      all_goals rfl
    · rintro ⟨b, rfl⟩ hnot
      exact State.takeByte_err hnot
    · rintro rfl hresp
      obtain ⟨-, herr⟩ | ⟨h1, -⟩ := s.deadline_err_or_report
      · exact herr
      · exact absurd (hresp.symm.trans h1) (by decide)
  · rw [exec_eq_effect, exec_eq_effect]
    refine congrArg Host.Outcome.next ?_
    obtain ⟨c, rfl⟩ | rfl | rfl | rfl | rfl | rfl | rfl := hi
    · exact congrArg (State.respond 0) (s.buildFrame_report e c)
    · exact congrArg (State.respond 0) (s.parseFrame_report e)
    · exact congrArg (State.respond 0) (s.packRecord_report e s.basicRecord)
    · exact congrArg (State.respond 0) (s.unpackBasic_report e)
    · exact congrArg (State.respond 0) (s.packRecord_report e s.dmrRecord)
    · exact congrArg (State.respond 0) (s.unpackDmr_report e)
    · exact congrArg (State.respond 0) (s.arm_report e)
  · obtain rfl := (exec_next_iff (.rsyByte b) s t).1 ht
    rw [exec_rsyByte]
    exact congrArg Host.Outcome.next (State.takeByte_report hs hdone e)
  · obtain rfl := (exec_next_iff .rsyTmo s t).1 ht
    rw [exec_rsyTmo]
    obtain ⟨h0, -⟩ | ⟨-, hsame⟩ := s.deadline_err_or_report
    · exact absurd (h0.symm.trans hresp) (by decide)
    · exact congrArg Host.Outcome.next (hsame e)

/-! ### With nothing presented -/

/-- Settles O7: of the three things a step can do, two take an input. -/
theorem nothingPresentedHoldsTheState : Obligations.NothingPresentedHoldsTheState := by
  intro s hin
  obtain ⟨-, hstep⟩ | ⟨p, rest, hp, -⟩ | ⟨rest, hr, -⟩ := step_cases s
  · exact hstep
  · cases hin.symm.trans hp
  · cases hin.symm.trans hr

end Sys2Proof.Machine
end

section
/-! The canonical form of the byte memory is unique: its list can be read off from the bytes alone. -/

namespace Sys2Proof.Machine

theorem memRead_cons_self (a : Nat) (v : Byte) (m : List Host.Cell) : memRead ((a, v) :: m) a = v := if_pos rfl

theorem memRead_cons_of_ne {a c : Nat} (h : a ≠ c) (v : Byte) (m : List Host.Cell) :
    memRead ((a, v) :: m) c = memRead m c := if_neg h

theorem memWfFrom_cons_iff (lo a : Nat) (v : Byte) (m : List Host.Cell) :
    memWfFrom lo ((a, v) :: m) = true ↔ lo ≤ a ∧ v ≠ 0 ∧ memWfFrom (a + 1) m = true := by
  simp [memWfFrom, memDefault, and_assoc]

/-- Below the address it starts from, a canonical memory lists nothing. -/
theorem memRead_of_wfFrom_of_lt {lo c : Nat} {m : List Host.Cell} (h : memWfFrom lo m = true) (hc : c < lo) :
    memRead m c = 0 := by
  induction m generalizing lo with
  | nil => rfl
  | cons x m ih =>
    obtain ⟨a, v⟩ := x
    obtain ⟨hlo, -, htail⟩ := (memWfFrom_cons_iff lo a v m).1 h
    rw [memRead_cons_of_ne (by omega)]
    exact ih htail (by omega)

/-- The first address listed is the least one that reads other than 0x00, so no canonical memory that reads the same
starts above it. -/
theorem head_le_of_memRead_eq {lo lo' a b : Nat} {v w : Byte} {m m' : List Host.Cell}
    (h : memWfFrom lo ((a, v) :: m) = true) (h' : memWfFrom lo' ((b, w) :: m') = true)
    (heq : ∀ c, memRead ((a, v) :: m) c = memRead ((b, w) :: m') c) : b ≤ a := by
  obtain ⟨-, hv, -⟩ := (memWfFrom_cons_iff lo a v m).1 h
  obtain ⟨-, hw, htail⟩ := (memWfFrom_cons_iff lo' b w m').1 h'
  have hb : memWfFrom b ((b, w) :: m') = true := (memWfFrom_cons_iff b b w m').2 ⟨le_rfl, hw, htail⟩
  by_contra hab
  exact hv (by rw [← memRead_cons_self a v m, heq, memRead_of_wfFrom_of_lt hb (by omega)])

/-- A canonical memory that lists a byte does not read 0x00 everywhere. -/
theorem not_forall_memRead_cons_eq_zero {lo a : Nat} {v : Byte} {m : List Host.Cell}
    (h : memWfFrom lo ((a, v) :: m) = true) : ¬ ∀ c, memRead ((a, v) :: m) c = 0 := by
  obtain ⟨-, hv, -⟩ := (memWfFrom_cons_iff lo a v m).1 h
  intro hzero
  exact hv ((memRead_cons_self a v m).symm.trans (hzero a))

/-- Two canonical memories that read the same still do once a shared first byte is dropped: neither tail lists anything
at its address. -/
theorem tail_memRead_eq {a : Nat} {v : Byte} {m m' : List Host.Cell} (h : memWfFrom (a + 1) m = true)
    (h' : memWfFrom (a + 1) m' = true) (heq : ∀ c, memRead ((a, v) :: m) c = memRead ((a, v) :: m') c) (c : Nat) :
    memRead m c = memRead m' c := by
  by_cases hc : a = c
  · rw [memRead_of_wfFrom_of_lt h (by omega), memRead_of_wfFrom_of_lt h' (by omega)]
  · rw [← memRead_cons_of_ne hc v m, heq, memRead_cons_of_ne hc]

theorem eq_of_memWfFrom_of_memRead_eq {lo : Nat} {m m' : List Host.Cell} (h : memWfFrom lo m = true)
    (h' : memWfFrom lo m' = true) (heq : ∀ c, memRead m c = memRead m' c) : m = m' := by
  induction m generalizing lo m' with
  | nil =>
    cases m' with
    | nil => rfl
    | cons y m' => exact absurd (fun c => (heq c).symm) (not_forall_memRead_cons_eq_zero h')
  | cons x m ih =>
    obtain ⟨a, v⟩ := x
    cases m' with
    | nil => exact absurd heq (not_forall_memRead_cons_eq_zero h)
    | cons y m' =>
      obtain ⟨b, w⟩ := y
      obtain rfl : a = b :=
        le_antisymm (head_le_of_memRead_eq h' h fun c => (heq c).symm) (head_le_of_memRead_eq h h' heq)
      obtain rfl : v = w := by rw [← memRead_cons_self a v m, heq, memRead_cons_self]
      obtain ⟨-, -, htail⟩ := (memWfFrom_cons_iff lo a v m).1 h
      obtain ⟨-, -, htail'⟩ := (memWfFrom_cons_iff lo a v m').1 h'
      rw [ih htail htail' (tail_memRead_eq htail htail' heq)]

/-- Settles O58: the canonical form from address 0 on is determined by its reads, by induction on the listed bytes. -/
theorem canonicalMemoriesAreEqual : Obligations.CanonicalMemoriesAreEqual :=
  fun _ _ h h' heq => eq_of_memWfFrom_of_memRead_eq h h' heq

end Sys2Proof.Machine
end
